-- ==== Sys2Proof/Word.lean ====
section
/-! DEFINITION. The words of the Tilt-drive core: bytes of the link, the 20-bit datagram word, the 32-bit
registers and arguments (spec 00 R12, R15; 20 R68). -/

namespace Sys2Proof

/-- One byte on the synchronous serial link. -/
abbrev Byte := BitVec 8

/-- The 20-bit datagram word, and the 20-bit response (R80). -/
abbrev Word20 := BitVec 20

/-- A 32-bit register or setter argument (R27, R28, R31, R140). Signed where the rule says so (R15). -/
abbrev Word32 := BitVec 32

end Sys2Proof
end

