-- ==== Sys2Proof/Syntax.lean ====
section
/-! DEFINITION. The names the rules use (directions, states, status kinds, device registers) and the one
inductive of operations: one constructor for each row of spec/opcode_table.json. -/

namespace Sys2Proof

/-- Motion Direction (R23). -/
inductive Direction where
  | stopped
  | clockwise
  | counterClockwise
  deriving DecidableEq, Repr, Inhabited

/-- A direction that is not Stopped: the type of SWEEP_DIR (R30), of HOME_DIR's result, which is "never Stopped"
(R196), and of a test state's direction (R206). -/
inductive Turn where
  | clockwise
  | counterClockwise
  deriving DecidableEq, Repr, Inhabited

/-- The seven controller states (R26); `initial` is the state that R26 names Initialize. -/
inductive TiltState where
  | initial
  | home
  | testDelay
  | tiltTable
  | testClockwise
  | testCounterClockwise
  | error
  deriving DecidableEq, Repr, Inhabited

/-- The three status kinds; the type has no fourth value (R149). -/
inductive StatusKind where
  | position
  | stallGuardLevel
  | stallGuardAndCurrent
  deriving DecidableEq, Repr, Inhabited

/-- The five configuration registers of the device, in the order of their cache index 0 to 4 (R21). -/
inductive RegId where
  | drvctrl
  | chopconf
  | smarten
  | sgcsconf
  | drvconf
  deriving DecidableEq, Repr, Inhabited

/-- One constructor for each row of spec/opcode_table.json. The first eleven are the formats (their arguments are the
fields of the bit pattern, most significant first); the others are the operations, the state routines and the event
handlers, with the operands their rule names. -/
inductive Instr where
  /-- TXFRAME, R81: the transmit frame that carries the word `w`. -/
  | txframe (w : Word20)
  /-- RXFRAME, R82: the receive frame with response `r` and ignored low bits `x`. -/
  | rxframe (r : Word20) (x : BitVec 4)
  /-- DRVCTRL_SD, R84. -/
  | drvctrlSd (intpol : BitVec 1) (dedge : BitVec 1) (mres : BitVec 4)
  /-- DRVCTRL_SPI, R85. -/
  | drvctrlSpi (pha : BitVec 1) (ca : BitVec 8) (phb : BitVec 1) (cb : BitVec 8)
  /-- CHOPCONF, R86. -/
  | chopconf (tbl : BitVec 2) (chm : BitVec 1) (rndtf : BitVec 1) (hdec : BitVec 2) (hend : BitVec 4) (hstrt : BitVec 3) (toff : BitVec 4)
  /-- SMARTEN, R87. -/
  | smarten (seimin : BitVec 1) (sedn : BitVec 2) (semax : BitVec 4) (seup : BitVec 2) (semin : BitVec 4)
  /-- SGCSCONF, R88. -/
  | sgcsconf (sfilt : BitVec 1) (sgt : BitVec 7) (cs : BitVec 5)
  /-- DRVCONF, R89. -/
  | drvconf (tst : BitVec 1) (slph : BitVec 2) (slpl : BitVec 2) (diss2g : BitVec 1) (ts2g : BitVec 2) (sdoff : BitVec 1) (vsense : BitVec 1) (rdsel : BitVec 2)
  /-- RESP_POS, R93: `x` are the ignored bits 9..8. -/
  | respPos (mstep : BitVec 10) (x : BitVec 2) (status : Byte)
  /-- RESP_SG, R94. -/
  | respSg (sg : BitVec 10) (x : BitVec 2) (status : Byte)
  /-- RESP_SGCS, R95. -/
  | respSgcs (sgh : BitVec 5) (se : BitVec 5) (x : BitVec 2) (status : Byte)
  /-- PACK, R110. -/
  | pack (w : Word20)
  /-- UNPACK, R111. -/
  | unpack (b0 : Byte) (b1 : Byte) (b2 : Byte)
  /-- XFER_BYTE, R121. -/
  | xferByte (t : Byte)
  /-- EXCHANGE, R123. -/
  | exchange (t0 : Byte) (t1 : Byte) (t2 : Byte)
  /-- SET_DRVCTRL_SD, R141. -/
  | setDrvctrlSd (intpol : Word32) (dedge : Word32) (mres : Word32)
  /-- SET_DRVCTRL_SPI, R142. -/
  | setDrvctrlSpi (pha : Word32) (ca : Word32) (phb : Word32) (cb : Word32)
  /-- SET_CHOPCONF, R143. -/
  | setChopconf (tbl : Word32) (chm : Word32) (rndtf : Word32) (hdec : Word32) (hend : Word32) (hstrt : Word32) (toff : Word32)
  /-- SET_SMARTEN, R144. -/
  | setSmarten (seimin : Word32) (sedn : Word32) (semax : Word32) (seup : Word32) (semin : Word32)
  /-- SET_SGCSCONF, R145. -/
  | setSgcsconf (sfilt : Word32) (sgt : Word32) (cs : Word32)
  /-- SET_DRVCONF, R146. -/
  | setDrvconf (tst : Word32) (slph : Word32) (slpl : Word32) (diss2g : Word32) (ts2g : Word32) (sdoff : Word32) (vsense : Word32) (rdsel : Word32)
  /-- STATUS_READ, R150. -/
  | statusRead (kind : StatusKind)
  /-- DEMUX, R151. -/
  | demux (kind : StatusKind) (resp : Word20)
  /-- DRIVER_INIT, R160. -/
  | driverInit
  /-- SET_DIRECTION, R171. -/
  | setDirection (d : Direction)
  /-- STEP_PULSE, R173. -/
  | stepPulse
  /-- ENTER, R187. -/
  | enter (target : TiltState)
  /-- TICK, R188. -/
  | tick
  /-- INITIALIZE_TICK, R192. -/
  | initializeTick
  /-- HOME_TICK, R194. -/
  | homeTick
  /-- TESTDELAY_TICK, R197 and R198. -/
  | testdelayTick
  /-- TILTTABLE_TICK, R203. -/
  | tilttableTick
  /-- TEST_TICK_CW, R206. -/
  | testTickCw
  /-- TEST_TICK_CCW, R207. -/
  | testTickCcw
  /-- STEP_EXPIRY, R221. -/
  | stepExpiry
  /-- HOME_EDGE, R236. -/
  | homeEdge
  /-- STALL_EDGE, R241. -/
  | stallEdge
  deriving DecidableEq, Repr, Inhabited

/-- The mode under which bits are read (R96: "Two decodings depend on mode and not on the bits decoded"): as a transmit
frame (R81), as a receive frame (R82), as a word for the device whose SDOFF setting is `sdoff` (R96 a, R101), or as the
response to a read of the kind that was requested (R96 b). -/
inductive Format where
  | txFrame
  | rxFrame
  | driverWord (sdoff : Bool)
  | response (kind : StatusKind)
  deriving DecidableEq, Repr, Inhabited

end Sys2Proof
end

