-- ==== Sys2Proof/Config.lean ====
section
/-! DEFINITION. What is fixed for one machine (the parameters of R9, R10 and R161) and what the environment is
free to do (R19): the configuration record, the moves of the environment, and the two constants without a value that
stand for "whatever this machine was built with" and "whatever the environment does". -/

namespace Sys2Proof

/-- The six transmit layouts (R84 to R89). -/
inductive Layout where
  | drvctrlSd
  | drvctrlSpi
  | chopconf
  | smarten
  | sgcsconf
  | drvconf
  deriving DecidableEq, Repr, Inhabited

/-- A field of a layout: its name, its least significant bit, its width (R90). -/
structure Field where
  name : String
  lsb : Nat
  n : Nat
  deriving DecidableEq, Repr, Inhabited

/-- A base template for each layout (R83, R90). -/
structure BaseTable where
  drvctrlSd : Word20
  drvctrlSpi : Word20
  chopconf : Word20
  smarten : Word20
  sgcsconf : Word20
  drvconf : Word20
  deriving DecidableEq, Repr, Inhabited

/-- REGMAP (R10, R90) as data: the base template of each layout, and each field's place. -/
structure RegMap where
  bases : BaseTable
  intpol : Field
  dedge : Field
  mres : Field
  pha : Field
  ca : Field
  phb : Field
  cb : Field
  tbl : Field
  chm : Field
  rndtf : Field
  hdec : Field
  hend : Field
  hstrt : Field
  toff : Field
  seimin : Field
  sedn : Field
  semax : Field
  seup : Field
  semin : Field
  sfilt : Field
  sgt : Field
  cs : Field
  tst : Field
  slph : Field
  slpl : Field
  diss2g : Field
  ts2g : Field
  sdoff : Field
  vsense : Field
  rdsel : Field
  deriving DecidableEq, Repr, Inhabited

/-- RESPMAP (R10, R95) as data, "with the same form as REGMAP": each lane's place in a response. -/
structure RespMap where
  mstep : Field
  sg : Field
  sgh : Field
  se : Field
  status : Field
  deriving DecidableEq, Repr, Inhabited

/-- INIT (R161): one 32-bit value for each field of the five layouts DRIVER_INIT writes. Every value is OPEN. -/
structure Init where
  intpol : Word32
  dedge : Word32
  mres : Word32
  tbl : Word32
  chm : Word32
  rndtf : Word32
  hdec : Word32
  hend : Word32
  hstrt : Word32
  toff : Word32
  seimin : Word32
  sedn : Word32
  semax : Word32
  seup : Word32
  semin : Word32
  sfilt : Word32
  sgt : Word32
  cs : Word32
  tst : Word32
  slph : Word32
  slpl : Word32
  diss2g : Word32
  ts2g : Word32
  sdoff : Word32
  vsense : Word32
  rdsel : Word32
  deriving DecidableEq, Repr, Inhabited

/-- RECONCILE (R10, R238; 92 D25: "a four-row table") as data: for each direction of motion and flag level, no
reconciliation or a signed step offset. Stopped has no row: "with DIRECTION = Stopped there is no reconciliation" (92
D26). -/
structure ReconcileTable where
  clockwiseUncovered : Option Int
  clockwiseCovered : Option Int
  counterClockwiseUncovered : Option Int
  counterClockwiseCovered : Option Int
  deriving DecidableEq, Repr, Inhabited

/-- HOME_DIR (R10, R196) as data: for each flag level and each answer to "is the offset zero", the homing direction. -/
structure HomeDirTable where
  coveredZero : Turn
  coveredNonzero : Turn
  uncoveredZero : Turn
  uncoveredNonzero : Turn
  deriving DecidableEq, Repr, Inhabited

/-- The configuration record of R9 and R10; the defaults that R10 gives are `Config.withDefaults` (Machine/Operands.lean).
`upperSteps` and `lowerSteps` carry ANGLE_UPPER, ANGLE_LOWER and angleOf together, as the integer thresholds of R177: a
step count above `upperSteps` or below `lowerSteps` trips the limiter (log 8; `Config.LimitsFor` of Safety.lean ties them to
any angle function and bounds). -/
structure Config where
  gearNum : Nat
  gearDen : Nat
  microstepsPerRev : Nat
  /-- POS_WIDTH: the width of STEPS in bits (R10, R24). -/
  posWidth : Nat
  /-- REGMAP (R90) and RESPMAP (R95). -/
  regMap : RegMap
  respMap : RespMap
  upperSteps : Int
  lowerSteps : Int
  homingPeriod : Word32
  defaultPeriod : Word32
  /-- PROFILE[0..PROFILE_LEN-1], signed 32-bit entries; PROFILE_LEN is the list's length (R60, R61). -/
  profile : List Word32
  testDelayTicks : Nat
  testTickBudget : Nat
  /-- STATUS_DECIMATION: read by no rule (R9). -/
  statusDecimation : Int
  /-- T_GUARD_BYTE, T_GUARD_XACT, TICK_RATE: timing only, read by no rule (R9, R125). -/
  tGuardByte : Nat
  tGuardXact : Nat
  tickRate : Nat
  init : Init
  csActiveLevel : Bool
  enActiveLevel : Bool
  dirLevelCw : Bool
  homeCoveredLevel : Bool
  /-- FLAG_WIDTH_STEPS (R10, R238). -/
  flagWidthSteps : Int
  reconcile : ReconcileTable
  homeDir : HomeDirTable
  firstSweepDir : Turn
  testDelayStatusKind : StatusKind
  deriving DecidableEq, Repr, Inhabited

/-- The machine was built with SOME configuration; the spec leaves every value OPEN (R9), so nothing here gives one. -/
opaque Config.installed : Config

/-- The four event sources (R256), in the order of their pending latch. -/
inductive Source where
  | tick
  | step
  | home
  | stall
  deriving DecidableEq, Repr, Inhabited

/-- What the serial link may do while the block is held at a wait or a delay (R47, R122): a new level of LINK_TXE, a
new level of LINK_BSY, a received byte (LINK_RX takes it and LINK_RXNE rises), the end of a guard delay. -/
inductive LinkAction where
  | txe (level : Bool)
  | bsy (level : Bool)
  | received (b : Byte)
  | elapsed
  deriving DecidableEq, Repr, Inhabited

/-- What the environment does at the block's other inputs: TICK_EV (R49), TMR_EXP_EV (R50), a level of HOME_IN or
SG_IN (R48), a level of the reset input (R280; true is asserted). -/
inductive EnvEvent where
  | tickEv
  | timerExpiry
  | homeLevel (level : Bool)
  | sgLevel (level : Bool)
  | reset (asserted : Bool)
  deriving DecidableEq, Repr, Inhabited

/-- One move of the interleaving (R72, R300): the link acts, another input acts, or the block runs one segment. A move
of the block names the source it serves first if several of the highest level are pending, since "a model admits every
order" (R259). -/
inductive Move where
  | link (a : LinkAction)
  | event (e : EnvEvent)
  | block (first : Source)
  deriving DecidableEq, Repr, Inhabited

/-- The free choices of the environment, one for each count of moves: when events arrive, every received byte, the
order among equals (93 U1, U5; R300). Nothing is known of it. -/
opaque Config.environment : Nat → Move

end Sys2Proof
end

