-- ==== Sys2Proof/Decode.lean ====
section
/-! DEFINITION. Bits: the frames (R81, R82), the six transmit layouts and three response layouts (R83 to R95) as
tables and as patterns, field assembly and extraction (R91), PACK and UNPACK (R110, R111), the decoder of frames and
words (R96, R101) and the encoder. -/

namespace Sys2Proof

/-! ## Frames -/

/-- The 24-bit value of a frame, `b0 ‖ b1 ‖ b2` (R13). -/
def frame24 (b0 b1 b2 : Byte) : BitVec 24 := b0 ++ b1 ++ b2

/-- The three bytes of a 24-bit frame in wire order, most significant first (R13, R65). -/
def frameBytes (f : BitVec 24) : List Byte :=
  [f.extractLsb' 16 8, f.extractLsb' 8 8, f.extractLsb' 0 8]

/-- PACK's 32-bit container, `T32 = zext(w) << 8` (R81, R110; C1 of 90). -/
def packContainer (w : Word20) : Word32 := w.setWidth 32 <<< 8

/-- PACK (R110): the top three bytes of the container. -/
def packBytes (w : Word20) : Byte × Byte × Byte :=
  ((packContainer w).extractLsb' 24 8, (packContainer w).extractLsb' 16 8, (packContainer w).extractLsb' 8 8)

/-- UNPACK's 32-bit container, `R32 = b0 ‖ b1 ‖ b2 ‖ 0x00` (R111; C2 of 90). -/
def unpackContainer (b0 b1 b2 : Byte) : Word32 := b0 ++ b1 ++ b2 ++ 0#8

/-- UNPACK (R111): the container shifted right by 12, frame bits 23..4. -/
def unpackBytes (b0 b1 b2 : Byte) : Word20 := (unpackContainer b0 b1 b2 >>> 12).setWidth 20

/-! ## REGMAP and RESPMAP (R90, R95) -/

/-- REGMAP's default (R83 to R90). PRESUMED: the spec takes it from the TMC26x family (log 5). -/
def RegMap.default : RegMap where
  bases := ⟨0x00000, 0x00000, 0x80000, 0xA0000, 0xC0000, 0xE0000⟩
  intpol := ⟨"INTPOL", 9, 1⟩
  dedge := ⟨"DEDGE", 8, 1⟩
  mres := ⟨"MRES", 0, 4⟩
  pha := ⟨"PHA", 17, 1⟩
  ca := ⟨"CA", 9, 8⟩
  phb := ⟨"PHB", 8, 1⟩
  cb := ⟨"CB", 0, 8⟩
  tbl := ⟨"TBL", 15, 2⟩
  chm := ⟨"CHM", 14, 1⟩
  rndtf := ⟨"RNDTF", 13, 1⟩
  hdec := ⟨"HDEC", 11, 2⟩
  hend := ⟨"HEND", 7, 4⟩
  hstrt := ⟨"HSTRT", 4, 3⟩
  toff := ⟨"TOFF", 0, 4⟩
  seimin := ⟨"SEIMIN", 15, 1⟩
  sedn := ⟨"SEDN", 13, 2⟩
  semax := ⟨"SEMAX", 8, 4⟩
  seup := ⟨"SEUP", 5, 2⟩
  semin := ⟨"SEMIN", 0, 4⟩
  sfilt := ⟨"SFILT", 16, 1⟩
  sgt := ⟨"SGT", 8, 7⟩
  cs := ⟨"CS", 0, 5⟩
  tst := ⟨"TST", 16, 1⟩
  slph := ⟨"SLPH", 14, 2⟩
  slpl := ⟨"SLPL", 12, 2⟩
  diss2g := ⟨"DISS2G", 10, 1⟩
  ts2g := ⟨"TS2G", 8, 2⟩
  sdoff := ⟨"SDOFF", 7, 1⟩
  vsense := ⟨"VSENSE", 6, 1⟩
  rdsel := ⟨"RDSEL", 4, 2⟩

/-- The base template of a layout (R83, R90). -/
def RegMap.base (m : RegMap) : Layout → Word20
  | .drvctrlSd => m.bases.drvctrlSd
  | .drvctrlSpi => m.bases.drvctrlSpi
  | .chopconf => m.bases.chopconf
  | .smarten => m.bases.smarten
  | .sgcsconf => m.bases.sgcsconf
  | .drvconf => m.bases.drvconf

/-- The fields of a layout (R90), in the order of the setter's arguments. -/
def RegMap.fields (m : RegMap) : Layout → List Field
  | .drvctrlSd => [m.intpol, m.dedge, m.mres]
  | .drvctrlSpi => [m.pha, m.ca, m.phb, m.cb]
  | .chopconf => [m.tbl, m.chm, m.rndtf, m.hdec, m.hend, m.hstrt, m.toff]
  | .smarten => [m.seimin, m.sedn, m.semax, m.seup, m.semin]
  | .sgcsconf => [m.sfilt, m.sgt, m.cs]
  | .drvconf => [m.tst, m.slph, m.slpl, m.diss2g, m.ts2g, m.sdoff, m.vsense, m.rdsel]

/-- RESPMAP's default (R92 to R95). PRESUMED: the spec takes it from the same family (log 6). -/
def RespMap.default : RespMap where
  mstep := ⟨"MSTEP", 10, 10⟩
  sg := ⟨"SG", 10, 10⟩
  sgh := ⟨"SGH", 15, 5⟩
  se := ⟨"SE", 10, 5⟩
  status := ⟨"STATUS", 0, 8⟩

/-- The lanes a response has under each kind (R92 to R95). -/
def RespMap.fields (m : RespMap) : StatusKind → List Field
  | .position => [m.mstep, m.status]
  | .stallGuardLevel => [m.sg, m.status]
  | .stallGuardAndCurrent => [m.sgh, m.se, m.status]

/-- The field mask `2^n - 1` (R91). -/
def Field.mask (f : Field) : Word32 := BitVec.ofNat 32 (2 ^ f.n - 1)

/-- One field argument masked and put in its place, `(arg & (2^n - 1)) << lsb` (R91). -/
def Field.place (f : Field) (arg : Word32) : Word32 := (arg &&& f.mask) <<< f.lsb

/-- Field assembly (R91): the base template OR-ed with every placed argument. -/
def assemble (base : Word20) (fields : List Field) (args : List Word32) : Word20 :=
  (fields.zip args).foldl (fun w fa => w ||| (fa.1.place fa.2).setWidth 20) base

/-- The word of a layout with these arguments (R91, R140). -/
def RegMap.word (m : RegMap) (l : Layout) (args : List Word32) : Word20 := assemble (m.base l) (m.fields l) args

/-- The bits of a word that a field takes. -/
def Field.bits (f : Field) : Word20 := (f.mask <<< f.lsb).setWidth 20

/-- The bits of a word that some field of the layout takes. -/
def RegMap.fieldBits (m : RegMap) (l : Layout) : Word20 := (m.fields l).foldl (fun w f => w ||| f.bits) 0

/-- Extraction of a field from a word, `(w >> lsb) & (2^n - 1)` (R91). -/
def Field.extract (f : Field) (w : Word20) : Word32 := (w.setWidth 32 >>> f.lsb) &&& f.mask

/-- The RDSEL code of a status kind (R149). -/
def StatusKind.code : StatusKind → Word32
  | .position => 0
  | .stallGuardLevel => 1
  | .stallGuardAndCurrent => 2

/-- A DRVCONF word with the RDSEL field of REGMAP replaced, `(base & ~(3 << 4)) | (kind << 4)` by the default map
(R150). -/
def RegMap.withRdsel (m : RegMap) (base : Word20) (kind : StatusKind) : Word20 :=
  (base &&& ~~~m.rdsel.bits) ||| (m.rdsel.place kind.code).setWidth 20

/-- The safe "read-only" base of a status read when no DRVCONF has been written (R8, R150). -/
def drvconfReadOnlyBase : Word20 := 0xEF000

/-- A Status Read record (R149): kind, position u10, stall-guard level u10, current scale u5, status byte. -/
structure StatusRecord where
  kind : StatusKind
  position : BitVec 10
  sg : BitVec 10
  cs : BitVec 5
  status : Byte
  deriving DecidableEq, Repr, Inhabited

/-- DEMUX (R151) by the lanes of RESPMAP (R92 to R95): "fields not relevant to the requested kind are reported as
zero"; under StallGuardAndCurrent the five-bit lane is zero-extended and not rescaled. -/
def demuxResponse (m : RespMap) (kind : StatusKind) (resp : Word20) : StatusRecord where
  kind := kind
  status := (m.status.extract resp).setWidth 8
  position := match kind with
    | .position => (m.mstep.extract resp).setWidth 10
    | .stallGuardLevel | .stallGuardAndCurrent => 0
  sg := match kind with
    | .position => 0
    | .stallGuardLevel => (m.sg.extract resp).setWidth 10
    | .stallGuardAndCurrent => (m.sgh.extract resp).setWidth 10
  cs := match kind with
    | .position | .stallGuardLevel => 0
    | .stallGuardAndCurrent => (m.se.extract resp).setWidth 5

/-! ## The decoder -/

/-- The opcode-table pattern of a transmit layout, as (mask, match) on the 20-bit word (R84 to R89). -/
structure Pattern where
  mask : Word20
  value : Word20
  deriving DecidableEq, Repr

/-- DRVCTRL_SD (R84): `0000000000id0000mmmm`. -/
def Pattern.drvctrlSd : Pattern := ⟨0xFFCF0, 0x00000⟩
/-- DRVCTRL_SPI (R85): `00paaaaaaaaqbbbbbbbb`. -/
def Pattern.drvctrlSpi : Pattern := ⟨0xC0000, 0x00000⟩
/-- CHOPCONF (R86): `100ttcrhheeeesssoooo`. -/
def Pattern.chopconf : Pattern := ⟨0xE0000, 0x80000⟩
/-- SMARTEN (R87): `1010idd0xxxx0uu0nnnn`. -/
def Pattern.smarten : Pattern := ⟨0xF1090, 0xA0000⟩
/-- SGCSCONF (R88): `110f0ggggggg000ccccc`. -/
def Pattern.sgcsconf : Pattern := ⟨0xE80E0, 0xC0000⟩
/-- DRVCONF (R89): `111thhll0gssovrr0000`. -/
def Pattern.drvconf : Pattern := ⟨0xE080F, 0xE0000⟩

/-- The word has the pattern's fixed bits. -/
def Pattern.fits (p : Pattern) (w : Word20) : Bool := w &&& p.mask == p.value

/-- The six patterns, in the table's order. -/
def Pattern.all : List Pattern :=
  [.drvctrlSd, .drvctrlSpi, .chopconf, .smarten, .sgcsconf, .drvconf]

/-- Why bytes are not read as a row. -/
inductive DecodeError where
  /-- A frame is exactly three bytes (R8, R67). -/
  | notThreeBytes
  /-- The four bits before the word of a transmit frame are zero (R81). -/
  | paddingNotZero
  /-- `w[19:18] = 01` selects no register; it "cannot occur" (R101). DESIGN CHOICE to refuse such a word, log 23. -/
  | noSuchRegister
  /-- A bit shown as 0 in the layout is set; the block never sets one in that layout (R97). DESIGN CHOICE to refuse such a
  word, log 23. -/
  | reservedBitSet
  deriving DecidableEq, Repr, Inhabited

/-- The fields of a word as a DRVCTRL_SD row (R84). -/
def readDrvctrlSd (w : Word20) : Instr := .drvctrlSd (w.extractLsb' 9 1) (w.extractLsb' 8 1) (w.extractLsb' 0 4)

/-- The fields of a word as a DRVCTRL_SPI row (R85). -/
def readDrvctrlSpi (w : Word20) : Instr :=
  .drvctrlSpi (w.extractLsb' 17 1) (w.extractLsb' 9 8) (w.extractLsb' 8 1) (w.extractLsb' 0 8)

/-- The fields of a word as a CHOPCONF row (R86). -/
def readChopconf (w : Word20) : Instr :=
  .chopconf (w.extractLsb' 15 2) (w.extractLsb' 14 1) (w.extractLsb' 13 1) (w.extractLsb' 11 2) (w.extractLsb' 7 4)
    (w.extractLsb' 4 3) (w.extractLsb' 0 4)

/-- The fields of a word as a SMARTEN row (R87). -/
def readSmarten (w : Word20) : Instr :=
  .smarten (w.extractLsb' 15 1) (w.extractLsb' 13 2) (w.extractLsb' 8 4) (w.extractLsb' 5 2) (w.extractLsb' 0 4)

/-- The fields of a word as a SGCSCONF row (R88). -/
def readSgcsconf (w : Word20) : Instr := .sgcsconf (w.extractLsb' 16 1) (w.extractLsb' 8 7) (w.extractLsb' 0 5)

/-- The fields of a word as a DRVCONF row (R89). -/
def readDrvconf (w : Word20) : Instr :=
  .drvconf (w.extractLsb' 16 1) (w.extractLsb' 14 2) (w.extractLsb' 12 2) (w.extractLsb' 10 1) (w.extractLsb' 8 2)
    (w.extractLsb' 7 1) (w.extractLsb' 6 1) (w.extractLsb' 4 2)

/-- Read a word as a layout if its fixed bits are the pattern's. -/
def readIf (p : Pattern) (i : Instr) (w : Word20) : Except DecodeError Instr :=
  if p.fits w then .ok i else .error .reservedBitSet

/-- Decode a transmitted word by `w[19:17]`, and by the device's SDOFF setting where that is 000 or 001 (R96 a,
R101). DESIGN CHOICE, log 23: a DRVCTRL word with a bit of 17..10 or 7..4 set, read with SDOFF = 0, is refused as
`reservedBitSet`. R101 calls it DRVCTRL_SD by the SDOFF bit, R84's mask leaves it out, SET_DRVCTRL_SPI can send it (R142),
and R97 says that the device's treatment of a reserved bit is not in the source. -/
def decodeWord (sdoff : Bool) (w : Word20) : Except DecodeError Instr :=
  let sel : BitVec 3 := w.extractLsb' 17 3
  if sel = 4 then readIf .chopconf (readChopconf w) w
  else if sel = 5 then readIf .smarten (readSmarten w) w
  else if sel = 6 then readIf .sgcsconf (readSgcsconf w) w
  else if sel = 7 then readIf .drvconf (readDrvconf w) w
  else if sel = 2 ∨ sel = 3 then .error .noSuchRegister
  else if sdoff then readIf .drvctrlSpi (readDrvctrlSpi w) w
  else readIf .drvctrlSd (readDrvctrlSd w) w

/-- Decode a response by the kind that was requested (R96 b); total (R99). -/
def decodeResponse (kind : StatusKind) (r : Word20) : Instr :=
  match kind with
  | .position => .respPos (r.extractLsb' 10 10) (r.extractLsb' 8 2) (r.extractLsb' 0 8)
  | .stallGuardLevel => .respSg (r.extractLsb' 10 10) (r.extractLsb' 8 2) (r.extractLsb' 0 8)
  | .stallGuardAndCurrent =>
    .respSgcs (r.extractLsb' 15 5) (r.extractLsb' 10 5) (r.extractLsb' 8 2) (r.extractLsb' 0 8)

/-- Decode a 24-bit frame under a mode: a transmit frame must have zero padding (R81); a receive frame is read
whatever it holds (R99). -/
def decodeFrame (f : Format) (v : BitVec 24) : Except DecodeError Instr :=
  match f with
  | .rxFrame => .ok (.rxframe (v.extractLsb' 4 20) (v.extractLsb' 0 4))
  | .response kind => .ok (decodeResponse kind (v.extractLsb' 4 20))
  | .txFrame =>
    if v.extractLsb' 20 4 = 0 then .ok (.txframe (v.extractLsb' 0 20)) else .error .paddingNotZero
  | .driverWord sdoff =>
    if v.extractLsb' 20 4 = 0 then decodeWord sdoff (v.extractLsb' 0 20) else .error .paddingNotZero

/-- Decode bytes under a mode: exactly three, most significant first (R65, R67). -/
def decode (f : Format) (bytes : List Byte) : Except DecodeError Instr :=
  match bytes with
  | [b0, b1, b2] => decodeFrame f (frame24 b0 b1 b2)
  | _ => .error .notThreeBytes

/-- The first of two readings that is not refused. -/
def orElse (a b : Except DecodeError Instr) : Except DecodeError Instr :=
  match a with
  | .ok i => .ok i
  | .error _ => b

/-- Decode bytes without a mode: each row is tried before the rows whose patterns contain it, so a word of a register
layout is read as that layout, another transmit frame as TXFRAME, anything else as RXFRAME. DESIGN CHOICE, log 7. -/
def decodeAuto (bytes : List Byte) : Except DecodeError Instr :=
  orElse (decode (.driverWord false) bytes)
    (orElse (decode (.driverWord true) bytes) (orElse (decode .txFrame bytes) (decode .rxFrame bytes)))

/-! ## The encoder -/

/-- The transmit frame of a word: four zero bits, then the word (R81). -/
def txFrame24 (w : Word20) : BitVec 24 := 0#4 ++ w

/-- The receive frame of a response: the response, then four bits that are ignored (R82). -/
def rxFrame24 (r : Word20) (x : BitVec 4) : BitVec 24 := r ++ x

/-- The 20-bit word of a transmit layout, written from its pattern (R84 to R89). -/
def Instr.word? (i : Instr) : Option Word20 :=
  match i with
  | .drvctrlSd intpol dedge mres => some (0#10 ++ intpol ++ dedge ++ 0#4 ++ mres)
  | .drvctrlSpi pha ca phb cb => some (0#2 ++ pha ++ ca ++ phb ++ cb)
  | .chopconf tbl chm rndtf hdec hend hstrt toff => some (4#3 ++ tbl ++ chm ++ rndtf ++ hdec ++ hend ++ hstrt ++ toff)
  | .smarten seimin sedn semax seup semin =>
    some (0xA#4 ++ seimin ++ sedn ++ 0#1 ++ semax ++ 0#1 ++ seup ++ 0#1 ++ semin)
  | .sgcsconf sfilt sgt cs => some (6#3 ++ sfilt ++ 0#1 ++ sgt ++ 0#3 ++ cs)
  | .drvconf tst slph slpl diss2g ts2g sdoff vsense rdsel =>
    some (7#3 ++ tst ++ slph ++ slpl ++ 0#1 ++ diss2g ++ ts2g ++ sdoff ++ vsense ++ rdsel ++ 0#4)
  | _ => none

/-- The 20-bit response of a response layout, written from its pattern (R93 to R95). -/
def Instr.response? (i : Instr) : Option Word20 :=
  match i with
  | .respPos mstep x status => some (mstep ++ x ++ status)
  | .respSg sg x status => some (sg ++ x ++ status)
  | .respSgcs sgh se x status => some (sgh ++ se ++ x ++ status)
  | _ => none

/-- The frame of a format row; none for an operation, which has no bit pattern (R101). The ignored bits after a
response are written as zeros. -/
def Instr.frame? (i : Instr) : Option (BitVec 24) :=
  match i with
  | .txframe w => some (txFrame24 w)
  | .rxframe r x => some (rxFrame24 r x)
  | i => match i.word? with
    | some w => some (txFrame24 w)
    | none => i.response?.map fun r => rxFrame24 r 0

/-- The bytes of a format row in wire order (R13); none for an operation. -/
def encode (i : Instr) : Option (List Byte) := i.frame?.map frameBytes

/-! ## The host's view of the decoder -/

/-- Bytes of a number, most significant first: `n` bytes of `w`. -/
def bytesOf : Nat → Nat → List Byte
  | 0, _ => []
  | n + 1, w => BitVec.ofNat 8 (w / 2 ^ (8 * n)) :: bytesOf n w

/-- The bytes that hold a table row's bits, as the link orders them (R65): the row's bit 0 is bit 0 of the last. -/
def tableBytes (nbits w : Nat) : List Byte := bytesOf ((nbits + 7) / 8) w

/-- The instruction the decoder reads from a table row's bits, none where it refuses. -/
def decodeTableWord (nbits w : Nat) : Option Instr := (decodeAuto (tableBytes nbits w)).toOption

end Sys2Proof
end

