-- ==== Sys2Proof/Machine/State.lean ====
section
/-! DEFINITION. The state of the block (R20), the ports it reads and writes (R44), the progress of an operation that
stands at a wait (R260), and the machine right after reset (R53, R280). -/

namespace Sys2Proof.Machine

/-- One value for each of the five device registers, in the order of the cache indices 0 to 4 (R21). -/
structure PerReg (α : Type) where
  drvctrl : α
  chopconf : α
  smarten : α
  sgcsconf : α
  drvconf : α
  deriving DecidableEq, Repr, Inhabited

/-- The pending latches PEND[0..3] (R34). -/
structure Pending where
  tick : Bool
  step : Bool
  home : Bool
  stall : Bool
  deriving DecidableEq, Repr, Inhabited

/-- The serial link's input ports as the block sees them (R46, R47). -/
structure Link where
  txe : Bool
  rxne : Bool
  bsy : Bool
  rx : Byte
  deriving DecidableEq, Repr, Inhabited

/-- Where a received byte of an exchange is kept (R260: "the bytes received so far"). -/
inductive Slot where
  | first
  | second
  | third
  deriving DecidableEq, Repr, Inhabited

/-- The bytes an operation in progress has received (R36, R260). -/
structure Received where
  r0 : Byte
  r1 : Byte
  r2 : Byte
  deriving DecidableEq, Repr, Inhabited

/-- The conditions the block waits for (R121, R123). -/
inductive Wait where
  | txe
  | rxne
  | idle
  deriving DecidableEq, Repr, Inhabited

/-- The guard delays (R125). -/
inductive Guard where
  | byte
  | transaction
  deriving DecidableEq, Repr, Inhabited

/-- Result codes of a setter (R251). -/
inductive ResultCode where
  | ok
  | invalidInput
  deriving DecidableEq, Repr, Inhabited

/-- One line of the pseudocode of an operation that can be held (R121, R123, R140, R150, R160, R192, R197). -/
inductive Micro where
  /-- `CS_LINE <- asserted` or `deasserted`. -/
  | chipSelect (asserted : Bool)
  /-- `wait until` a condition of the link. -/
  | wait (w : Wait)
  /-- `LinkSend(t)`. -/
  | send (t : Byte)
  /-- `r <- LinkRecv()`. -/
  | recv (slot : Slot)
  /-- `delay(T)`. -/
  | guard (g : Guard)
  /-- `REG[i] <- w; VALID[i] <- 1`. -/
  | commit (r : RegId) (w : Word20)
  /-- `EN_LINE <- asserted` or `deasserted`. -/
  | enable (asserted : Bool)
  /-- `ENTER(s)`. -/
  | enter (target : TiltState)
  /-- `if TICKS >= TESTDELAY_TICKS: ENTER(TiltTable)` (R198). -/
  | testDelayExit
  /-- Decode the frame just received and `emit TELEMETRY` (R150). -/
  | telemetry (kind : StatusKind)
  /-- `return r` of XFER_BYTE. -/
  | returnByte
  /-- `return (r0, r1, r2)` of EXCHANGE. -/
  | returnFrame
  /-- `return` of a setter, with its result code. -/
  | returnCode (c : ResultCode)
  /-- `return s` of STATUS_READ. -/
  | returnStatus (kind : StatusKind)
  deriving DecidableEq, Repr

/-- An operation that stands at a wait or a delay: what is left of it, and the bytes it has received (R260). -/
structure Task where
  todo : List Micro
  rx : Received
  deriving DecidableEq, Repr

/-- The value an operation returns (R102, R251): the model's record of it (log 16). -/
inductive Result where
  | none
  | byte (b : Byte)
  | frame (b0 : Byte) (b1 : Byte) (b2 : Byte)
  | word (w : Word20)
  | code (c : ResultCode)
  | status (r : StatusRecord)
  deriving DecidableEq, Repr, Inhabited

/-- What the block shows at its ports as an event (R46, R51, R52), each write of CS_LINE, so that the order of 95 section
3.2 can be read, and each assertion of reset: the model's record of it (log 16). -/
inductive PortEvent where
  | chipSelect (asserted : Bool)
  | linkTx (b : Byte)
  | telemetry (position : BitVec 10) (sg : BitVec 10) (cs : BitVec 5) (status : Byte)
  | debug
  /-- Reset was asserted: every output line went to its reset level, a half-sent frame was cut (R280). -/
  | reset
  deriving DecidableEq, Repr

/-- What a harness presents: an operation by name with its operands (R102; 95 section 5, P2), or the bytes of a frame,
which are decoded first. -/
inductive Call where
  | op (i : Instr)
  | bytes (bs : List Byte)
  deriving DecidableEq, Repr

/-- The block's state: the table of R20, the input ports, and the model's own fields of INVENTORY.md. -/
structure State where
  /-- The configuration record (R9, R10); no step changes it (log 1). -/
  cfg : Config
  /-- REG[0..4] (R21). -/
  reg : PerReg Word20
  /-- VALID[0..4] (R22). -/
  valid : PerReg Bool
  /-- DIRECTION (R23). -/
  direction : Direction
  /-- STEPS, a signed number kept within POS_WIDTH bits of two's complement (R24, `Config.wrapSteps`). -/
  steps : Int
  /-- STATE (R26). -/
  tilt : TiltState
  /-- TICKS (R27). -/
  ticks : Word32
  /-- PROFILE_IDX (R28). -/
  profileIdx : Word32
  /-- PROFILE_ACTIVE (R29). -/
  profileActive : Bool
  /-- SWEEP_DIR (R30). -/
  sweepDir : Turn
  /-- TMR_PERIOD (R31). -/
  tmrPeriod : Word32
  /-- TMR_RUN (R32). -/
  tmrRun : Bool
  /-- CS_LINE, true = asserted (R33). -/
  csLine : Bool
  /-- EN_LINE, true = asserted (R33). -/
  enLine : Bool
  /-- DIR_LINE, the pin level (R33). -/
  dirLine : Bool
  /-- STEP_LINE, the pin level (R33). -/
  stepLine : Bool
  /-- PEND[0..3] (R34). -/
  pend : Pending
  /-- HOME_PREV (R35). -/
  homePrev : Bool
  /-- SG_PREV (R35). -/
  sgPrev : Bool
  /-- HOME_IN, the input's level (R48). -/
  homeIn : Bool
  /-- SG_IN, the input's level (R48). -/
  sgIn : Bool
  /-- LINK_TXE, LINK_RXNE, LINK_BSY, LINK_RX (R46, R47). -/
  link : Link
  /-- The level of the reset input, true = asserted (R280). -/
  resetHeld : Bool
  /-- The operations that stand at a wait or a delay, innermost first (R260; log 14). -/
  tasks : List Task
  /-- What a harness presents (log 3). -/
  port : Option Call
  /-- The value the last operation returned (log 16). -/
  result : Result
  /-- The output events so far, oldest first (log 16). -/
  out : List PortEvent
  /-- The moves that are already decided, oldest first (log 2). -/
  script : List Move
  /-- How many moves the free stream has given (log 2). -/
  moveCount : Nat
  deriving DecidableEq, Repr

/-- Why the machine stops with a fault. -/
inductive Fault where
  /-- Raised by the step when the environment gives a TICK event while reset is asserted: 93 U18 gives the treatment
  `fault`, "the environment must not do this" (R35, R280). Safe: nothing is concluded about a run that does it. -/
  | eventInReset
  deriving DecidableEq, Repr

/-- Why an instruction has no meaning. -/
inductive Refusal where
  /-- Raised by an arm of `exec` whose instruction has no meaning yet; no arm is left. Safe. -/
  | notModelled (mnemonic : String)
  /-- Raised by the step when a harness presents bytes that are not a frame (R67). Safe: the block exchanges no such
  bytes. -/
  | undecodable (why : DecodeError)
  deriving DecidableEq, Repr

/-- The state right after reset of a machine built with the configuration `c`: the reset column of R20 (R53, R281).
TMR_PERIOD: log 9. Input levels: logs 10 and 11 (the link is idle: R283). -/
def State.resetWith (c : Config) : State where
  cfg := c
  reg := ⟨0, 0, 0, 0, 0⟩
  valid := ⟨false, false, false, false, false⟩
  direction := .stopped
  steps := 0
  tilt := .initial
  ticks := 0
  profileIdx := 0
  profileActive := false
  sweepDir := c.firstSweepDir
  tmrPeriod := 0
  tmrRun := false
  csLine := false
  enLine := false
  dirLine := false
  stepLine := false
  pend := ⟨false, false, false, false⟩
  homePrev := false
  sgPrev := false
  homeIn := false
  sgIn := false
  link := ⟨true, false, false, 0⟩
  resetHeld := false
  tasks := []
  port := none
  result := .none
  out := []
  script := []
  moveCount := 0

/-- The machine right after reset (R53, R281). -/
def State.reset : State := State.resetWith Config.installed

end Sys2Proof.Machine
end

