-- ==== Sys2Proof/Machine/Operands.lean ====
section
/-! DEFINITION. Operands: directions and their signs and levels, the parameter tables RECONCILE and HOME_DIR, the
profile table, the caches by name, the argument lists of the setters and the validated fields. -/

namespace Sys2Proof

/-- A turn as a direction. -/
def Turn.toDirection : Turn → Direction
  | .clockwise => .clockwise
  | .counterClockwise => .counterClockwise

/-- `opposite(d)` for the two directions a sweep can have (R14). -/
def Turn.opposite : Turn → Turn
  | .clockwise => .counterClockwise
  | .counterClockwise => .clockwise

/-- `sign(d)` (R14). -/
def Direction.sign : Direction → Int
  | .stopped => 0
  | .clockwise => 1
  | .counterClockwise => -1

/-- A step count as POS_WIDTH bits of two's complement hold it (R24); with POS_WIDTH = 32 the s32 wrap of R173. -/
def Config.wrapSteps (c : Config) (n : Int) : Int := n.bmod (2 ^ c.posWidth)

/-- The result code as a number (R251). -/
def Machine.ResultCode.number : Machine.ResultCode → Nat
  | .ok => 0
  | .invalidInput => 1

/-- The numeric encoding of the states (R26); it is not observable. -/
def TiltState.number : TiltState → Nat
  | .initial => 0
  | .home => 1
  | .testDelay => 2
  | .tiltTable => 3
  | .testClockwise => 4
  | .testCounterClockwise => 5
  | .error => 6

/-- The default RECONCILE table of R238 for the flag width `w`. -/
def ReconcileTable.default (w : Int) : ReconcileTable where
  clockwiseUncovered := some 0
  clockwiseCovered := some (-w)
  counterClockwiseUncovered := some (-w)
  counterClockwiseCovered := some 0

/-- RECONCILE(direction, covered): none or a step offset (R236, R238); none whenever Stopped (R242, R282; 92 D26). -/
def ReconcileTable.lookup (t : ReconcileTable) (d : Direction) (covered : Bool) : Option Int :=
  match d, covered with
  | .clockwise, false => t.clockwiseUncovered
  | .clockwise, true => t.clockwiseCovered
  | .counterClockwise, false => t.counterClockwiseUncovered
  | .counterClockwise, true => t.counterClockwiseCovered
  | .stopped, _ => none

/-- The default HOME_DIR table of R196. -/
def HomeDirTable.default : HomeDirTable where
  coveredZero := .clockwise
  coveredNonzero := .clockwise
  uncoveredZero := .counterClockwise
  uncoveredNonzero := .counterClockwise

/-- HOME_DIR(covered, STEPS = 0) (R194, R196). -/
def HomeDirTable.lookup (t : HomeDirTable) (covered zero : Bool) : Turn :=
  match covered, zero with
  | true, true => t.coveredZero
  | true, false => t.coveredNonzero
  | false, true => t.uncoveredZero
  | false, false => t.uncoveredNonzero

/-- The defaults of R10: a configuration with every parameter that has a default at it. The others are OPEN and stay as
they are; angleOf's default stands in `Config.ExactThresholds` (Safety.lean). -/
def Config.withDefaults (c : Config) : Config :=
  { c with
    regMap := .default
    respMap := .default
    posWidth := 32
    csActiveLevel := false
    enActiveLevel := false
    dirLevelCw := true
    homeCoveredLevel := true
    reconcile := .default c.flagWidthSteps
    homeDir := .default
    firstSweepDir := .clockwise
    testDelayStatusKind := .position }

namespace Machine

/-- A cache or valid bit by its register. -/
def PerReg.get {α : Type} (p : PerReg α) : RegId → α
  | .drvctrl => p.drvctrl
  | .chopconf => p.chopconf
  | .smarten => p.smarten
  | .sgcsconf => p.sgcsconf
  | .drvconf => p.drvconf

/-- Write one register's entry. -/
def PerReg.set {α : Type} (p : PerReg α) (r : RegId) (a : α) : PerReg α :=
  match r with
  | .drvctrl => { p with drvctrl := a }
  | .chopconf => { p with chopconf := a }
  | .smarten => { p with smarten := a }
  | .sgcsconf => { p with sgcsconf := a }
  | .drvconf => { p with drvconf := a }

/-- Keep one received byte. -/
def Received.set (r : Received) (slot : Slot) (b : Byte) : Received :=
  match slot with
  | .first => { r with r0 := b }
  | .second => { r with r1 := b }
  | .third => { r with r2 := b }

/-- No byte received yet. -/
def Received.none : Received := ⟨0, 0, 0⟩

/-- The profile read MemRead(i, 1), "defined only for 0 <= i < PROFILE_LEN" (R61). -/
def profileEntry (c : Config) (idx : Word32) : Option Word32 := c.profile[idx.toNat]?

/-- The entry at an index if the index is in the table and the entry positive; the two ends of a sweep, "the end (or a
non-positive entry)", give none (R203, R224). -/
def positiveEntry (c : Config) (idx : Word32) : Option Word32 :=
  match profileEntry c idx with
  | some p => if 0 < p.toInt then some p else none
  | none => none

/-- A validated field must be 0 or 1 as a 32-bit value (R148). -/
def isBit (v : Word32) : Bool := v == 0 || v == 1

/-- The register a layout belongs to (R83). -/
def layoutReg : Layout → RegId
  | .drvctrlSd => .drvctrl
  | .drvctrlSpi => .drvctrl
  | .chopconf => .chopconf
  | .smarten => .smarten
  | .sgcsconf => .sgcsconf
  | .drvconf => .drvconf

/-- Validation (R148): INTPOL and DEDGE of DRVCTRL_SD, PHA and PHB of DRVCTRL_SPI, in that order; every other field
is masked, not checked. -/
def argsValid (l : Layout) (args : List Word32) : Bool :=
  match l, args with
  | .drvctrlSd, [intpol, dedge, _] => isBit intpol && isBit dedge
  | .drvctrlSpi, [pha, _, phb, _] => isBit pha && isBit phb
  | _, _ => true

/-- INIT's arguments for SET_DRVCTRL_SD (R160). -/
def initDrvctrl (n : Init) : List Word32 := [n.intpol, n.dedge, n.mres]
/-- INIT's arguments for SET_CHOPCONF (R160). -/
def initChopconf (n : Init) : List Word32 := [n.tbl, n.chm, n.rndtf, n.hdec, n.hend, n.hstrt, n.toff]
/-- INIT's arguments for SET_SMARTEN (R160). -/
def initSmarten (n : Init) : List Word32 := [n.seimin, n.sedn, n.semax, n.seup, n.semin]
/-- INIT's arguments for SET_SGCSCONF (R160). -/
def initSgcsconf (n : Init) : List Word32 := [n.sfilt, n.sgt, n.cs]
/-- INIT's arguments for SET_DRVCONF (R160). -/
def initDrvconf (n : Init) : List Word32 := [n.tst, n.slph, n.slpl, n.diss2g, n.ts2g, n.sdoff, n.vsense, n.rdsel]

end Machine

end Sys2Proof
end

