-- ==== Sys2Proof/Machine/Flags.lean ====
section
/-! DEFINITION. Flags (R39): pending latches and their selection (R34, R258, R259), edge detectors (R35), the link's
conditions (R47), the home flag (R48), the safety limiter's test (R190), the output pins (R45). There are no arithmetic
condition codes (R39). -/

namespace Sys2Proof.Machine

/-- PEND[k] (R34). -/
def Pending.get (p : Pending) : Source → Bool
  | .tick => p.tick
  | .step => p.step
  | .home => p.home
  | .stall => p.stall

/-- Write PEND[k] (R34). Setting a latch that is 1 merges the event with the pending one. -/
def Pending.set (p : Pending) (k : Source) (b : Bool) : Pending :=
  match k with
  | .tick => { p with tick := b }
  | .step => { p with step := b }
  | .home => { p with home := b }
  | .stall => { p with stall := b }

/-- A source of the highest priority level is pending: STEP, HOME or STALL (R257). -/
def Pending.high (p : Pending) : Bool := p.step || p.home || p.stall

/-- The source of the highest level that is served: the one the move names if it is pending, else the first pending
one; every order is thus admitted (R259, 93 U5). -/
def Pending.selectHigh (p : Pending) (first : Source) : Option Source :=
  if first ≠ .tick ∧ p.get first then some first
  else if p.step then some .step
  else if p.home then some .home
  else if p.stall then some .stall
  else none

/-- Selection (R259): a pending source of the highest level is served whenever no handler runs or the running one is
at a preemption point; TICK only when no handler runs (R261). -/
def State.selectSource (s : State) (first : Source) : Option Source :=
  match s.pend.selectHigh first with
  | some k => some k
  | none => if s.tasks.isEmpty && s.pend.tick then some .tick else none

/-- An event of source `k` sets its latch (R258). -/
def State.raiseEvent (k : Source) (s : State) : State := { s with pend := s.pend.set k true }

/-- TMR_EXP_EV is raised only while TMR_RUN = 1 (R32, R50). -/
def State.timerExpires (s : State) : State := if s.tmrRun then s.raiseEvent .step else s

/-- HOME_IN takes a level; a difference from HOME_PREV raises HOME and HOME_PREV takes the level (R35). While reset is
held the detector follows the input and raises nothing (R35: "so that reset itself raises no event"). -/
def State.homeInput (level : Bool) (s : State) : State :=
  if s.resetHeld || level == s.homePrev then { s with homeIn := level, homePrev := level }
  else { s with homeIn := level, homePrev := level, pend := s.pend.set .home true }

/-- SG_IN takes a level; both edges raise STALL (R35, R241). -/
def State.sgInput (level : Bool) (s : State) : State :=
  if s.resetHeld || level == s.sgPrev then { s with sgIn := level, sgPrev := level }
  else { s with sgIn := level, sgPrev := level, pend := s.pend.set .stall true }

/-- A condition of the link holds (R121, R123). -/
def Link.meets (l : Link) : Wait → Bool
  | .txe => l.txe
  | .rxne => l.rxne
  | .idle => !l.bsy

/-- What a move of the link does to the ports (R47, R122). The end of a delay changes no port. -/
def Link.act (l : Link) : LinkAction → Link
  | .txe b => { l with txe := b }
  | .bsy b => { l with bsy := b }
  | .received b => { l with rx := b, rxne := true }
  | .elapsed => l

/-- The home flag is covered, "the level now" (R18, R48, R194, R236). -/
def State.covered (s : State) : Bool := s.homeIn == s.cfg.homeCoveredLevel

/-- The limiter's test on STEPS (R190) with the integer thresholds of R177: strictly above or strictly below. -/
def State.outOfBounds (s : State) : Bool :=
  decide (s.cfg.upperSteps < s.steps) || decide (s.steps < s.cfg.lowerSteps)

/-- The states in which the limiter is active: "in TestDelay, TiltTable, TestClockwise and TestCounterClockwise; not in
Initialize and Home ... and not in Error" (R190). -/
def limited : TiltState → Bool
  | .testDelay | .tiltTable | .testClockwise | .testCounterClockwise => true
  | .initial | .home | .error => false

/-- CSN_PIN (R45). -/
def State.csnPin (s : State) : Bool := if s.csLine then s.cfg.csActiveLevel else !s.cfg.csActiveLevel
/-- EN_PIN (R45). -/
def State.enPin (s : State) : Bool := if s.enLine then s.cfg.enActiveLevel else !s.cfg.enActiveLevel
/-- DIR_PIN (R45). -/
def State.dirPin (s : State) : Bool := s.dirLine
/-- STEP_PIN (R45). -/
def State.stepPin (s : State) : Bool := s.stepLine

end Sys2Proof.Machine
end

