-- ==== Sys2Proof/Machine/Ops.lean ====
section
/-! DEFINITION. The named operations on the state that several rules share: line and register writes, ENTER, the
timer, event entry (R260), the raise of InvalidInput (R250), and the running of an operation that may be held at a wait or
a delay (R255, R262). -/

namespace Sys2Proof.Machine

/-- An output event is recorded (R46, R51, R52). -/
def State.emit (e : PortEvent) (s : State) : State := { s with out := s.out ++ [e] }

/-- `CS_LINE <- asserted` or `deasserted` (R33, R123). -/
def State.setChipSelect (asserted : Bool) (s : State) : State :=
  { s with csLine := asserted, out := s.out ++ [.chipSelect asserted] }

/-- `EN_LINE <- asserted` or `deasserted` (R33). -/
def State.setEnable (asserted : Bool) (s : State) : State := { s with enLine := asserted }

/-- `LinkSend(t)` presents `t` on LINK_TX with its strobe (R122). -/
def State.linkSend (t : Byte) (s : State) : State := s.emit (.linkTx t)

/-- `LinkRecv()` takes LINK_RX and makes the link drop LINK_RXNE (R122); the byte is LINK_RX before it. -/
def State.linkRecv (s : State) : State := { s with link := { s.link with rxne := false } }

/-- Commit (R147): `REG[i] <- w; VALID[i] <- 1`. -/
def State.commit (r : RegId) (w : Word20) (s : State) : State :=
  { s with reg := s.reg.set r w, valid := s.valid.set r true }

/-- An operation returns a value (R251). -/
def State.answer (v : Result) (s : State) : State := { s with result := v }

/-- `raise InvalidInput(field)`: the operation ends at once with the result code "and no further state change" (R14,
R250). Which field failed is not stored. -/
def State.raiseInvalid (s : State) : State := s.answer (.code .invalidInput)

/-- ENTER (R187). -/
def State.enter (target : TiltState) (s : State) : State :=
  { s with tilt := target, ticks := 0, profileActive := false }

/-- "program the timer to P" (R227). -/
def State.programTimer (p : Word32) (s : State) : State := { s with tmrPeriod := p, tmrRun := true }

/-- `TICKS <- min(TICKS + 1, 2^32 - 1)` (R27, R188). -/
def State.countTick (s : State) : State :=
  { s with ticks := if s.ticks.toNat = 2 ^ 32 - 1 then s.ticks else s.ticks + 1 }

/-- SET_DIRECTION's effect (R171): Stopped leaves the line where it was. -/
def State.turnTo (d : Direction) (s : State) : State :=
  { s with
    direction := d
    dirLine := match d with
      | .stopped => s.dirLine
      | .clockwise => s.cfg.dirLevelCw
      | .counterClockwise => !s.cfg.dirLevelCw }

/-- STEP_PULSE's effect (R173): the line toggles, the count moves by the direction's sign and wraps (R24). -/
def State.pulse (s : State) : State :=
  { s with stepLine := !s.stepLine, steps := s.cfg.wrapSteps (s.steps + s.direction.sign) }

/-- Event entry (R260): serving source `k` clears PEND[k]; "nothing is saved and nothing else changes". There is no
return operation to go with it: a handler ends at its last line (R261). -/
def State.enterHandler (k : Source) (s : State) : State := { s with pend := s.pend.set k false }

/-- Telemetry (R152): one event per completed status read, the kind tag not carried (R51). -/
def State.sendTelemetry (r : StatusRecord) (s : State) : State :=
  s.emit (.telemetry r.position r.sg r.cs r.status)

/-- The response of the frame just received under a requested kind (R150, R151). -/
def Received.statusOf (m : RespMap) (rx : Received) (kind : StatusKind) : StatusRecord :=
  demuxResponse m kind (unpackBytes rx.r0 rx.r1 rx.r2)

/-- TestDelay exit (R198): on the tick whose count reaches TESTDELAY_TICKS. -/
def State.testDelayExit (s : State) : State :=
  if s.cfg.testDelayTicks ≤ s.ticks.toNat then s.enter .tiltTable else s

/-! ## Operations that may be held -/

/-- The link moves, taken from the decided moves while a condition is awaited: the link and the moves left. -/
def Link.await (w : Wait) : Link → List Move → Link × List Move
  | l, [] => (l, [])
  | l, m :: ms =>
    if l.meets w then (l, m :: ms)
    else match m with
      | .link a => (l.act a).await w ms
      | .event _ | .block _ => (l, m :: ms)

/-- The link moves during a guard delay: whether the delay has elapsed, the link and the moves left. -/
def Link.awaitElapsed : Link → List Move → Bool × Link × List Move
  | l, [] => (false, l, [])
  | l, m :: ms => match m with
    | .link .elapsed => (true, l, ms)
    | .link (.txe b) => (l.act (.txe b)).awaitElapsed ms
    | .link (.bsy b) => (l.act (.bsy b)).awaitElapsed ms
    | .link (.received b) => (l.act (.received b)).awaitElapsed ms
    | .event _ | .block _ => (false, l, m :: ms)

/-- The outcome of one line of an operation: it is done, or the operation is held there. -/
inductive Progress where
  | done (rx : Received) (s : State)
  | held (s : State)

/-- `wait until` (R14): if the condition holds the operation goes on. If not it is held, and a pending source of the
highest level pre-empts it at once (R259, R262); with none pending the decided link moves are taken first. Log 12. -/
def State.attemptWait (w : Wait) (rx : Received) (s : State) : Progress :=
  if s.link.meets w then .done rx s
  else if s.pend.high then .held s
  else
    let (l, ms) := s.link.await w s.script
    if l.meets w then .done rx { s with link := l, script := ms } else .held { s with link := l, script := ms }

/-- `delay(T)` (R14, R125): the operation is held until the environment says that the delay has elapsed. -/
def State.attemptGuard (rx : Received) (s : State) : Progress :=
  if s.pend.high then .held s
  else
    let (elapsed, l, ms) := s.link.awaitElapsed s.script
    if elapsed then .done rx { s with link := l, script := ms } else .held { s with link := l, script := ms }

/-- One line of an operation. -/
def Micro.attempt (m : Micro) (rx : Received) (s : State) : Progress :=
  match m with
  | .chipSelect b => .done rx (s.setChipSelect b)
  | .wait w => s.attemptWait w rx
  | .send t => .done rx (s.linkSend t)
  | .recv slot => .done (rx.set slot s.link.rx) s.linkRecv
  | .guard _ => s.attemptGuard rx
  | .commit r w => .done rx (s.commit r w)
  | .enable b => .done rx (s.setEnable b)
  | .enter t => .done rx (s.enter t)
  | .testDelayExit => .done rx s.testDelayExit
  | .telemetry k => .done rx (s.sendTelemetry (rx.statusOf s.cfg.respMap k))
  | .returnByte => .done rx (s.answer (.byte rx.r0))
  | .returnFrame => .done rx (s.answer (.frame rx.r0 rx.r1 rx.r2))
  | .returnCode c => .done rx (s.answer (.code c))
  | .returnStatus k => .done rx (s.answer (.status (rx.statusOf s.cfg.respMap k)))

/-- The operation stands still with this much left; its progress "is kept" (R260). -/
def State.hold (todo : List Micro) (rx : Received) (s : State) : State :=
  { s with tasks := ⟨todo, rx⟩ :: s.tasks }

/-- Run an operation until it ends or is held: one atomic segment (R72, R262). -/
def runMicros : List Micro → Received → State → State
  | [], _, s => s
  | m :: rest, rx, s =>
    match m.attempt rx s with
    | .done rx' s' => runMicros rest rx' s'
    | .held s' => s'.hold (m :: rest) rx

/-- Call an operation: it begins with no byte received. -/
def State.call (todo : List Micro) (s : State) : State := runMicros todo .none s

/-- Go on with the innermost operation that stands at a wait or a delay; with none, nothing happens (R19: the main
context "performs no operation of this block"). -/
def State.resume (s : State) : State :=
  match s.tasks with
  | [] => s
  | t :: ts => runMicros t.todo t.rx { s with tasks := ts }

/-- The end of a guard delay, told to an operation that stands at one (R125). -/
def State.guardElapsed (s : State) : State :=
  match s.tasks with
  | ⟨.guard _ :: rest, rx⟩ :: ts => { s with tasks := ⟨rest, rx⟩ :: ts }
  | _ => s

end Sys2Proof.Machine
end

