-- ==== Sys2Proof/Machine/Codec.lean ====
section
/-! DEFINITION. The Datagram Codec (spec 40): PACK and UNPACK, "no state, pure transformation". -/

namespace Sys2Proof.Machine

/-- PACK (R110). -/
def execPack (w : Word20) (s : State) : Host.Outcome State Fault Refusal :=
  .next (s.answer (.frame (packBytes w).1 (packBytes w).2.1 (packBytes w).2.2))

/-- UNPACK (R111). -/
def execUnpack (b0 b1 b2 : Byte) (s : State) : Host.Outcome State Fault Refusal :=
  .next (s.answer (.word (unpackBytes b0 b1 b2)))

end Sys2Proof.Machine
end

