-- ==== Sys2Proof/Machine/Formats.lean ====
section
/-! DEFINITION. The eleven format rows (R80). A format has no behaviour of its own: the codec is "combinational" (40,
R99), and what the device does with a word is outside the block (R64). Its meaning is the value its rule gives: the three
bytes of a transmit frame (R81), the response in a receive frame (R82), the word a layout's fields make (R84 to R89), the
record a response's lanes hold (R93 to R95), read by the default maps, as the opcode table has them. DESIGN CHOICE, log 4. -/

namespace Sys2Proof.Machine

/-- TXFRAME (R81): the frame `0000 ‖ w` as its three bytes. -/
def execTxframe (w : Word20) (s : State) : Host.Outcome State Fault Refusal :=
  let f := txFrame24 w
  .next (s.answer (.frame (f.extractLsb' 16 8) (f.extractLsb' 8 8) (f.extractLsb' 0 8)))

/-- RXFRAME (R82): the response; the low four bits are ignored. -/
def execRxframe (r : Word20) (x : BitVec 4) (s : State) : Host.Outcome State Fault Refusal :=
  .next (s.answer (.word ((rxFrame24 r x).extractLsb' 4 20)))

/-- DRVCTRL_SD (R84), assembled by R91. -/
def execDrvctrlSd (intpol dedge : BitVec 1) (mres : BitVec 4) (s : State) : Host.Outcome State Fault Refusal :=
  .next (s.answer (.word (RegMap.default.word .drvctrlSd [intpol.setWidth 32, dedge.setWidth 32, mres.setWidth 32])))

/-- DRVCTRL_SPI (R85), assembled by R91. -/
def execDrvctrlSpi (pha : BitVec 1) (ca : BitVec 8) (phb : BitVec 1) (cb : BitVec 8) (s : State) :
    Host.Outcome State Fault Refusal :=
  .next (s.answer (.word (RegMap.default.word .drvctrlSpi [pha.setWidth 32, ca.setWidth 32, phb.setWidth 32, cb.setWidth 32])))

/-- CHOPCONF (R86), assembled by R91. -/
def execChopconf (tbl : BitVec 2) (chm rndtf : BitVec 1) (hdec : BitVec 2) (hend : BitVec 4) (hstrt : BitVec 3)
    (toff : BitVec 4) (s : State) : Host.Outcome State Fault Refusal :=
  .next (s.answer (.word (RegMap.default.word .chopconf [tbl.setWidth 32, chm.setWidth 32, rndtf.setWidth 32, hdec.setWidth 32,
    hend.setWidth 32, hstrt.setWidth 32, toff.setWidth 32])))

/-- SMARTEN (R87), assembled by R91. -/
def execSmarten (seimin : BitVec 1) (sedn : BitVec 2) (semax : BitVec 4) (seup : BitVec 2) (semin : BitVec 4)
    (s : State) : Host.Outcome State Fault Refusal :=
  .next (s.answer (.word (RegMap.default.word .smarten [seimin.setWidth 32, sedn.setWidth 32, semax.setWidth 32,
    seup.setWidth 32, semin.setWidth 32])))

/-- SGCSCONF (R88), assembled by R91. -/
def execSgcsconf (sfilt : BitVec 1) (sgt : BitVec 7) (cs : BitVec 5) (s : State) : Host.Outcome State Fault Refusal :=
  .next (s.answer (.word (RegMap.default.word .sgcsconf [sfilt.setWidth 32, sgt.setWidth 32, cs.setWidth 32])))

/-- DRVCONF (R89), assembled by R91. -/
def execDrvconf (tst : BitVec 1) (slph slpl : BitVec 2) (diss2g : BitVec 1) (ts2g : BitVec 2) (sdoff vsense : BitVec 1)
    (rdsel : BitVec 2) (s : State) : Host.Outcome State Fault Refusal :=
  .next (s.answer (.word (RegMap.default.word .drvconf [tst.setWidth 32, slph.setWidth 32, slpl.setWidth 32, diss2g.setWidth 32,
    ts2g.setWidth 32, sdoff.setWidth 32, vsense.setWidth 32, rdsel.setWidth 32])))

/-- RESP_POS (R93): the microstep position and the status byte. -/
def execRespPos (mstep : BitVec 10) (x : BitVec 2) (status : Byte) (s : State) : Host.Outcome State Fault Refusal :=
  .next (s.answer (.status (demuxResponse .default .position (mstep ++ x ++ status))))

/-- RESP_SG (R94): the stall-guard level and the status byte. -/
def execRespSg (sg : BitVec 10) (x : BitVec 2) (status : Byte) (s : State) : Host.Outcome State Fault Refusal :=
  .next (s.answer (.status (demuxResponse .default .stallGuardLevel (sg ++ x ++ status))))

/-- RESP_SGCS (R95): the stall-guard level's upper five bits, the current scale and the status byte. -/
def execRespSgcs (sgh se : BitVec 5) (x : BitVec 2) (status : Byte) (s : State) : Host.Outcome State Fault Refusal :=
  .next (s.answer (.status (demuxResponse .default .stallGuardAndCurrent (sgh ++ se ++ x ++ status))))

end Sys2Proof.Machine
end

