-- ==== Sys2Proof/Machine/HomeEdge.lean ====
section
/-! DEFINITION. The Home Sensor Edge Source and the stall-guard stub (spec 46): the HOME_EDGE and STALL_EDGE handlers. -/

namespace Sys2Proof.Machine

/-- Reconciliation is an assignment (R237), within the width of STEPS (R24), followed by the Home to TestDelay transition
where STATE is Home and the offset of this very event is 0 (R239). -/
def State.reconcile (r : Int) (s : State) : State :=
  let s := { s with steps := s.cfg.wrapSteps r }
  if s.tilt = .home ∧ r = 0 then s.enter .testDelay else s

/-- The HOME_EDGE handler's body (R236): level and direction are read when it runs. -/
def State.homeEdgeBody (s : State) : State :=
  match s.cfg.reconcile.lookup s.direction s.covered with
  | some r => s.reconcile r
  | none => s

/-- HOME_EDGE (R236), entered by R260. -/
def execHomeEdge (s : State) : Host.Outcome State Fault Refusal :=
  .next (s.enterHandler .home).homeEdgeBody

/-- STALL_EDGE (R241), entered by R260: one DEBUG event and nothing else. -/
def execStallEdge (s : State) : Host.Outcome State Fault Refusal :=
  .next ((s.enterHandler .stall).emit .debug)

end Sys2Proof.Machine
end

