-- ==== Sys2Proof/Machine/Motion.lean ====
section
/-! DEFINITION. The Motion Primitives (spec 43): SET_DIRECTION and STEP_PULSE. The angle is a function of STEPS (R25) and
stands in Safety.lean. -/

namespace Sys2Proof.Machine

/-- SET_DIRECTION (R171). -/
def execSetDirection (d : Direction) (s : State) : Host.Outcome State Fault Refusal :=
  .next (s.turnTo d)

/-- STEP_PULSE (R173, R174). -/
def execStepPulse (s : State) : Host.Outcome State Fault Refusal :=
  .next s.pulse

end Sys2Proof.Machine
end

