-- ==== Sys2Proof/Machine/StepSource.lean ====
section
/-! DEFINITION. The Step Pulse Source (spec 45): the STEP_EXPIRY handler. Programming the timer (R227) is
`State.programTimer`. -/

namespace Sys2Proof.Machine

/-- One step of an active sweep (R224): advance the index, step, then either the next period or completion. -/
def State.sweepStep (s : State) : State :=
  let s := { s with profileIdx := s.profileIdx + 1 }.pulse
  match positiveEntry s.cfg s.profileIdx with
  | some p => { s with tmrPeriod := p }
  | none => { s with profileActive := false }

/-- The STEP_EXPIRY handler's body (R221): a dispatch on STATE. -/
def State.stepExpiryBody (s : State) : State :=
  match s.tilt with
  | .home | .testClockwise | .testCounterClockwise => s.pulse
  | .tiltTable => if s.profileActive then s.sweepStep else s
  | .initial | .testDelay | .error => s

/-- STEP_EXPIRY (R221), entered by R260. -/
def execStepExpiry (s : State) : Host.Outcome State Fault Refusal :=
  .next (s.enterHandler .step).stepExpiryBody

end Sys2Proof.Machine
end

