-- ==== Sys2Proof/Machine/Transport.lean ====
section
/-! DEFINITION. The Transport (spec 41): XFER_BYTE and EXCHANGE, line by line. Either may be held at any of its waits
and delays, for ever if the link never answers (R127, R255). -/

namespace Sys2Proof.Machine

/-- XFER_BYTE (R121) into a slot. -/
def xferPlan (t : Byte) (slot : Slot) : List Micro := [.wait .txe, .send t, .wait .rxne, .recv slot]

/-- EXCHANGE (R123), with the chip-select gate of R124 and the guard delays of R125. -/
def exchangePlan (t0 t1 t2 : Byte) : List Micro :=
  .chipSelect true :: xferPlan t0 .first ++ .guard .byte :: xferPlan t1 .second ++ .guard .byte ::
    xferPlan t2 .third ++ [.wait .idle, .chipSelect false, .guard .transaction]

/-- `EXCHANGE(PACK(w))` (R140, R150). -/
def sendWordPlan (w : Word20) : List Micro := exchangePlan (packBytes w).1 (packBytes w).2.1 (packBytes w).2.2

/-- XFER_BYTE (R121). -/
def execXferByte (t : Byte) (s : State) : Host.Outcome State Fault Refusal :=
  .next (s.call (xferPlan t .first ++ [.returnByte]))

/-- EXCHANGE (R123). -/
def execExchange (t0 t1 t2 : Byte) (s : State) : Host.Outcome State Fault Refusal :=
  .next (s.call (exchangePlan t0 t1 t2 ++ [.returnFrame]))

end Sys2Proof.Machine
end

