-- ==== Sys2Proof/Machine/Driver.lean ====
section
/-! DEFINITION. The Driver Register Model (spec 42): the six setter forms (R140 to R148), STATUS_READ and DEMUX (R149 to
R152), DRIVER_INIT (R160). -/

namespace Sys2Proof.Machine

/-- Steps 2 to 4 of a setter whose arguments are valid (R140): build, send, commit. The response is discarded. -/
def setterBody (m : RegMap) (l : Layout) (args : List Word32) : List Micro :=
  sendWordPlan (m.word l args) ++ [.commit (layoutReg l) (m.word l args)]

/-- A setter whose result code is ignored (R160, R188): nothing at all if validation fails (R250). -/
def setterPlan (m : RegMap) (l : Layout) (args : List Word32) : List Micro :=
  if argsValid l args then setterBody m l args else []

/-- SETTER (R140): validate and raise InvalidInput, or build, send, commit and return Ok. -/
def State.setter (l : Layout) (args : List Word32) (s : State) : State :=
  if argsValid l args then s.call (setterBody s.cfg.regMap l args ++ [.returnCode .ok]) else s.raiseInvalid

/-- SET_DRVCTRL, step/direction form (R141). -/
def execSetDrvctrlSd (intpol dedge mres : Word32) (s : State) : Host.Outcome State Fault Refusal :=
  .next (s.setter .drvctrlSd [intpol, dedge, mres])

/-- SET_DRVCTRL, direct-phase form (R142). -/
def execSetDrvctrlSpi (pha ca phb cb : Word32) (s : State) : Host.Outcome State Fault Refusal :=
  .next (s.setter .drvctrlSpi [pha, ca, phb, cb])

/-- SET_CHOPCONF (R143). -/
def execSetChopconf (tbl chm rndtf hdec hend hstrt toff : Word32) (s : State) : Host.Outcome State Fault Refusal :=
  .next (s.setter .chopconf [tbl, chm, rndtf, hdec, hend, hstrt, toff])

/-- SET_SMARTEN (R144). -/
def execSetSmarten (seimin sedn semax seup semin : Word32) (s : State) : Host.Outcome State Fault Refusal :=
  .next (s.setter .smarten [seimin, sedn, semax, seup, semin])

/-- SET_SGCSCONF (R145). -/
def execSetSgcsconf (sfilt sgt cs : Word32) (s : State) : Host.Outcome State Fault Refusal :=
  .next (s.setter .sgcsconf [sfilt, sgt, cs])

/-- SET_DRVCONF (R146). -/
def execSetDrvconf (tst slph slpl diss2g ts2g sdoff vsense rdsel : Word32) (s : State) :
    Host.Outcome State Fault Refusal :=
  .next (s.setter .drvconf [tst, slph, slpl, diss2g, ts2g, sdoff, vsense, rdsel])

/-- The word a status read sends in both phases (R150): the cached DRVCONF, or 0xEF000 if none was ever written, with
RDSEL replaced by the kind. -/
def State.statusWord (kind : StatusKind) (s : State) : Word20 :=
  s.cfg.regMap.withRdsel (if s.valid.drvconf then s.reg.drvconf else drvconfReadOnlyBase) kind

/-- STATUS_READ up to its telemetry (R150): select, commit, the same word again, decode, one TELEMETRY event. -/
def statusReadPlan (kind : StatusKind) (w : Word20) : List Micro :=
  sendWordPlan w ++ .commit .drvconf w :: sendWordPlan w ++ [.telemetry kind]

/-- STATUS_READ (R150). -/
def execStatusRead (kind : StatusKind) (s : State) : Host.Outcome State Fault Refusal :=
  .next (s.call (statusReadPlan kind (s.statusWord kind) ++ [.returnStatus kind]))

/-- DEMUX (R151). -/
def execDemux (kind : StatusKind) (resp : Word20) (s : State) : Host.Outcome State Fault Refusal :=
  .next (s.answer (.status (demuxResponse s.cfg.respMap kind resp)))

/-- DRIVER_INIT (R160): the five setters in register order with INIT's values, result codes ignored, then the enable
line. -/
def driverInitPlan (c : Config) : List Micro :=
  setterPlan c.regMap .drvctrlSd (initDrvctrl c.init) ++ setterPlan c.regMap .chopconf (initChopconf c.init)
    ++ setterPlan c.regMap .smarten (initSmarten c.init) ++ setterPlan c.regMap .sgcsconf (initSgcsconf c.init)
    ++ setterPlan c.regMap .drvconf (initDrvconf c.init) ++ [.enable true]

/-- DRIVER_INIT (R160). -/
def execDriverInit (s : State) : Host.Outcome State Fault Refusal :=
  .next (s.call (driverInitPlan s.cfg))

end Sys2Proof.Machine
end

