-- ==== Sys2Proof/Machine/Tilt.lean ====
section
/-! DEFINITION. The Tilt State Machine (spec 44): ENTER, the TICK handler with the safety limiter, and the state
routines. -/

namespace Sys2Proof.Machine

/-- INITIALIZE_TICK (R192). -/
def State.initializeTick (s : State) : State := s.call (driverInitPlan s.cfg ++ [.enter .home])

/-- HOME_TICK (R194): on tick 1 the homing rate and the homing direction (R196); later ticks do nothing. -/
def State.homeTick (s : State) : State :=
  if s.ticks = 1 then
    (s.programTimer s.cfg.homingPeriod).turnTo (s.cfg.homeDir.lookup s.covered (s.steps == 0)).toDirection
  else s

/-- TESTDELAY_TICK (R197, R198): on tick 1 one status read; then the exit test. -/
def State.testDelayTick (s : State) : State :=
  if s.ticks = 1 then
    s.call (statusReadPlan s.cfg.testDelayStatusKind (s.statusWord s.cfg.testDelayStatusKind) ++ [.testDelayExit])
  else s.testDelayExit

/-- The start of a sweep, tick 1 of TiltTable (R203, R204). -/
def State.startSweep (s : State) : State :=
  let s := { s.turnTo s.sweepDir.toDirection with sweepDir := s.sweepDir.opposite, profileIdx := 0 }
  match positiveEntry s.cfg 0 with
  | some p => { s.programTimer p with profileActive := true }
  | none => s

/-- TILTTABLE_TICK (R203, R205). -/
def State.tiltTableTick (s : State) : State :=
  if s.ticks = 1 then s.startSweep
  else if s.profileActive then s
  else s.enter .tiltTable

/-- TEST_TICK(d, other) (R206, R207). -/
def State.testTick (d : Turn) (other : TiltState) (s : State) : State :=
  let s := if s.ticks = 1 then ((s.setEnable true).programTimer s.cfg.defaultPeriod).turnTo d.toDirection else s
  if s.cfg.testTickBudget ≤ s.ticks.toNat then (s.setEnable false).enter other else s

/-- The dispatch of a tick that is counted (R188, R189). -/
def State.tickRoutine (s : State) : State :=
  match s.tilt with
  | .initial => s.initializeTick
  | .home => s.homeTick
  | .testDelay => s.testDelayTick
  | .tiltTable => s.tiltTableTick
  | .testClockwise => s.testTick .clockwise .testCounterClockwise
  | .testCounterClockwise => s.testTick .counterClockwise .testClockwise
  | .error => s

/-- The TICK handler's body (R188): nothing in Error (R191); else the limiter first, and nothing after it if it trips
(R190); else count the tick and run the state's routine. -/
def State.tickBody (s : State) : State :=
  if s.tilt = .error then s
  else if limited s.tilt && s.outOfBounds then s.enter .home
  else s.countTick.tickRoutine

/-- ENTER (R187). -/
def execEnter (target : TiltState) (s : State) : Host.Outcome State Fault Refusal :=
  .next (s.enter target)

/-- TICK (R188), entered by R260. -/
def execTick (s : State) : Host.Outcome State Fault Refusal :=
  .next (s.enterHandler .tick).tickBody

/-- INITIALIZE_TICK (R192). -/
def execInitializeTick (s : State) : Host.Outcome State Fault Refusal :=
  .next s.initializeTick

/-- HOME_TICK (R194). -/
def execHomeTick (s : State) : Host.Outcome State Fault Refusal :=
  .next s.homeTick

/-- TESTDELAY_TICK (R197, R198). -/
def execTestdelayTick (s : State) : Host.Outcome State Fault Refusal :=
  .next s.testDelayTick

/-- TILTTABLE_TICK (R203). -/
def execTilttableTick (s : State) : Host.Outcome State Fault Refusal :=
  .next s.tiltTableTick

/-- TEST_TICK_CW (R206). -/
def execTestTickCw (s : State) : Host.Outcome State Fault Refusal :=
  .next (s.testTick .clockwise .testCounterClockwise)

/-- TEST_TICK_CCW (R207). -/
def execTestTickCcw (s : State) : Host.Outcome State Fault Refusal :=
  .next (s.testTick .counterClockwise .testClockwise)

end Sys2Proof.Machine
end

