-- ==== Sys2Proof/Machine/Dispatch.lean ====
section
/-! DEFINITION. One arm for each row of spec/opcode_table.json. -/

namespace Sys2Proof.Machine

/-- The meaning of a row. -/
def exec (i : Instr) (s : State) : Host.Outcome State Fault Refusal :=
  match i with
  | .txframe w => Sys2Proof.Machine.execTxframe w s
  | .rxframe r x => Sys2Proof.Machine.execRxframe r x s
  | .drvctrlSd intpol dedge mres => Sys2Proof.Machine.execDrvctrlSd intpol dedge mres s
  | .drvctrlSpi pha ca phb cb => Sys2Proof.Machine.execDrvctrlSpi pha ca phb cb s
  | .chopconf tbl chm rndtf hdec hend hstrt toff => Sys2Proof.Machine.execChopconf tbl chm rndtf hdec hend hstrt toff s
  | .smarten seimin sedn semax seup semin => Sys2Proof.Machine.execSmarten seimin sedn semax seup semin s
  | .sgcsconf sfilt sgt cs => Sys2Proof.Machine.execSgcsconf sfilt sgt cs s
  | .drvconf tst slph slpl diss2g ts2g sdoff vsense rdsel => Sys2Proof.Machine.execDrvconf tst slph slpl diss2g ts2g sdoff vsense rdsel s
  | .respPos mstep x status => Sys2Proof.Machine.execRespPos mstep x status s
  | .respSg sg x status => Sys2Proof.Machine.execRespSg sg x status s
  | .respSgcs sgh se x status => Sys2Proof.Machine.execRespSgcs sgh se x status s
  | .pack w => Sys2Proof.Machine.execPack w s
  | .unpack b0 b1 b2 => Sys2Proof.Machine.execUnpack b0 b1 b2 s
  | .xferByte t => Sys2Proof.Machine.execXferByte t s
  | .exchange t0 t1 t2 => Sys2Proof.Machine.execExchange t0 t1 t2 s
  | .setDrvctrlSd intpol dedge mres => Sys2Proof.Machine.execSetDrvctrlSd intpol dedge mres s
  | .setDrvctrlSpi pha ca phb cb => Sys2Proof.Machine.execSetDrvctrlSpi pha ca phb cb s
  | .setChopconf tbl chm rndtf hdec hend hstrt toff => Sys2Proof.Machine.execSetChopconf tbl chm rndtf hdec hend hstrt toff s
  | .setSmarten seimin sedn semax seup semin => Sys2Proof.Machine.execSetSmarten seimin sedn semax seup semin s
  | .setSgcsconf sfilt sgt cs => Sys2Proof.Machine.execSetSgcsconf sfilt sgt cs s
  | .setDrvconf tst slph slpl diss2g ts2g sdoff vsense rdsel => Sys2Proof.Machine.execSetDrvconf tst slph slpl diss2g ts2g sdoff vsense rdsel s
  | .statusRead kind => Sys2Proof.Machine.execStatusRead kind s
  | .demux kind resp => Sys2Proof.Machine.execDemux kind resp s
  | .driverInit => Sys2Proof.Machine.execDriverInit s
  | .setDirection d => Sys2Proof.Machine.execSetDirection d s
  | .stepPulse => Sys2Proof.Machine.execStepPulse s
  | .enter target => Sys2Proof.Machine.execEnter target s
  | .tick => Sys2Proof.Machine.execTick s
  | .initializeTick => Sys2Proof.Machine.execInitializeTick s
  | .homeTick => Sys2Proof.Machine.execHomeTick s
  | .testdelayTick => Sys2Proof.Machine.execTestdelayTick s
  | .tilttableTick => Sys2Proof.Machine.execTilttableTick s
  | .testTickCw => Sys2Proof.Machine.execTestTickCw s
  | .testTickCcw => Sys2Proof.Machine.execTestTickCcw s
  | .stepExpiry => Sys2Proof.Machine.execStepExpiry s
  | .homeEdge => Sys2Proof.Machine.execHomeEdge s
  | .stallEdge => Sys2Proof.Machine.execStallEdge s

end Sys2Proof.Machine
end

