-- ==== Sys2Proof/WellFormed.lean ====
section
/-! DEFINITION. Which terms bits can present. The field widths are types, so a term cannot hold a value too wide for
its field; what is left to check is the mode (R96) and, where bits stand without a mode, that no narrower row of the
opcode table has the same bits; and the well-formedness of the two maps of fields (R90, R95). -/

namespace Sys2Proof

/-- The fields lie in bits 19..0 and do not overlap each other or the base template's nonzero bits (R90). -/
def fieldsFit (base : Word20) (fields : List Field) : Bool :=
  (fields.all fun f => decide (f.lsb + f.n ≤ 20) && f.bits &&& base == 0)
    && decide (fields.Pairwise fun f g => f.bits &&& g.bits = 0)

/-- Well-formedness of a REGMAP (R90): each of its six layouts is. -/
def RegMap.wf (m : RegMap) : Bool :=
  [Layout.drvctrlSd, .drvctrlSpi, .chopconf, .smarten, .sgcsconf, .drvconf].all fun l => fieldsFit (m.base l) (m.fields l)

/-- Well-formedness of a RESPMAP, which has "the same form as REGMAP" (R95): the lanes of each kind fit a response. -/
def RespMap.wf (m : RespMap) : Bool :=
  [StatusKind.position, .stallGuardLevel, .stallGuardAndCurrent].all fun k => fieldsFit 0 (m.fields k)

/-- `i` is a row that bits read under the mode `f` can present (R96, R101). An operation has no bits at all. -/
def Instr.wellFormedIn (f : Format) (i : Instr) : Bool :=
  match f, i with
  | .txFrame, .txframe _ => true
  | .rxFrame, .rxframe _ _ => true
  | .driverWord sdoff, .drvctrlSd _ _ _ => !sdoff
  | .driverWord sdoff, .drvctrlSpi _ _ _ _ => sdoff
  | .driverWord _, .chopconf _ _ _ _ _ _ _ => true
  | .driverWord _, .smarten _ _ _ _ _ => true
  | .driverWord _, .sgcsconf _ _ _ => true
  | .driverWord _, .drvconf _ _ _ _ _ _ _ _ => true
  | .response kind, .respPos _ _ _ => kind == .position
  | .response kind, .respSg _ _ _ => kind == .stallGuardLevel
  | .response kind, .respSgcs _ _ _ _ => kind == .stallGuardAndCurrent
  | _, _ => false

/-- The check on a term that stands without a mode (log 7). Bits are read as the narrowest row that has them, so a term
of a format is well formed when its own bits name it: a layout by its select bits and zeros, except a DRVCTRL_SPI word
that is also a DRVCTRL_SD word; a transmit frame by zero padding and a word of no layout; a receive frame by high bits that
no transmit frame has. A response is named by the kind that was requested and never by its bits (R96 b). An operation has
no bits, and every operand its type admits may be presented (R101, R102). -/
def Instr.wellFormed (i : Instr) : Bool :=
  match i with
  | .txframe w => Pattern.all.all fun p => !p.fits w
  | .rxframe r _ => r.extractLsb' 16 4 != 0
  | .drvctrlSd _ _ _ => true
  | .drvctrlSpi pha ca phb cb => !Pattern.drvctrlSd.fits ((0#2 ++ pha ++ ca ++ phb ++ cb : BitVec 20))
  | .chopconf _ _ _ _ _ _ _ => true
  | .smarten _ _ _ _ _ => true
  | .sgcsconf _ _ _ => true
  | .drvconf _ _ _ _ _ _ _ _ => true
  | .respPos _ _ _ | .respSg _ _ _ | .respSgcs _ _ _ _ => false
  | .pack _ | .unpack _ _ _ | .xferByte _ | .exchange _ _ _ => true
  | .setDrvctrlSd _ _ _ | .setDrvctrlSpi _ _ _ _ | .setChopconf _ _ _ _ _ _ _ => true
  | .setSmarten _ _ _ _ _ | .setSgcsconf _ _ _ | .setDrvconf _ _ _ _ _ _ _ _ => true
  | .statusRead _ | .demux _ _ | .driverInit | .setDirection _ | .stepPulse | .enter _ => true
  | .tick | .initializeTick | .homeTick | .testdelayTick | .tilttableTick => true
  | .testTickCw | .testTickCcw | .stepExpiry | .homeEdge | .stallEdge => true

end Sys2Proof
end

