-- ==== Sys2Proof/Machine/Step.lean ====
section
/-! DEFINITION. One step of the machine: a presented operation, or the next move of the interleaving (R72). There is no
instruction fetch (R76) and no program counter (R38); what runs next is chosen by the pending latches (R259). -/

namespace Sys2Proof.Machine

/-- The row a call asks for: an operation by name, or what the decoder reads from the bytes. -/
def Call.decode : Call → Except DecodeError Instr
  | .op i => .ok i
  | .bytes bs => decodeAuto bs

/-- The handler of a source (R256). -/
def handlerOf : Source → Instr
  | .tick => .tick
  | .step => .stepExpiry
  | .home => .homeEdge
  | .stall => .stallEdge

/-- The next move: the oldest decided one, else one of the free stream (log 2). -/
def State.nextMove (s : State) : Move × State :=
  match s.script with
  | m :: ms => (m, { s with script := ms })
  | [] => (Config.environment s.moveCount, { s with moveCount := s.moveCount + 1 })

/-- Reset is asserted (R280): every state element takes its reset value, "any operation in progress, including a
half-sent frame" is discarded; the configuration, the input levels and the model's own records stay, and the assertion is recorded. -/
def State.holdInReset (s : State) : State :=
  { State.resetWith s.cfg with
    homePrev := s.homeIn, sgPrev := s.sgIn, homeIn := s.homeIn, sgIn := s.sgIn, link := s.link, resetHeld := true
    port := s.port, result := s.result, out := s.out ++ [.reset], script := s.script, moveCount := s.moveCount }

/-- Reset is released (R35): the edge detectors start at the inputs' levels. A release of a reset that is not asserted is
no change. -/
def State.releaseReset (s : State) : State :=
  if s.resetHeld then { s with resetHeld := false, homePrev := s.homeIn, sgPrev := s.sgIn } else s

/-- A move of the environment at an input (R48 to R50, R280). A tick while reset is asserted is 93 U18's fault. -/
def State.deliver (e : EnvEvent) (s : State) : Host.Outcome State Fault Refusal :=
  match e with
  | .tickEv => if s.resetHeld then .fault .eventInReset else .next (s.raiseEvent .tick)
  | .timerExpiry => .next s.timerExpires
  | .homeLevel b => .next (s.homeInput b)
  | .sgLevel b => .next (s.sgInput b)
  | .reset true => .next s.holdInReset
  | .reset false => .next s.releaseReset

/-- A move of the link: a new level at its ports, or the end of a guard delay (R47, R122, R125). -/
def State.linkMove (a : LinkAction) (s : State) : State :=
  match a with
  | .elapsed => s.guardElapsed
  | .txe b => { s with link := s.link.act (.txe b) }
  | .bsy b => { s with link := s.link.act (.bsy b) }
  | .received b => { s with link := s.link.act (.received b) }

/-- The block runs one segment (R72): the handler of the source that is selected (R259), else the operation that stands
at a wait or a delay. Nothing runs while reset is asserted (R280). No input moves inside a segment. DESIGN CHOICE, log 24:
an edge of HOME_IN that falls inside the atomic part of a tick (R292) is placed after the whole part, so that HOME_TICK
reads the level before it. -/
def State.runBlock (first : Source) (s : State) : Host.Outcome State Fault Refusal :=
  if s.resetHeld then .next s
  else match s.selectSource first with
    | some k => exec (handlerOf k) s
    | none => .next s.resume

/-- One move of the interleaving. -/
def State.take (m : Move) (s : State) : Host.Outcome State Fault Refusal :=
  match m with
  | .link a => .next (s.linkMove a)
  | .event e => s.deliver e
  | .block first => s.runBlock first

/-- A call that a harness presents is run at once; it is decoded first if it is bytes. -/
def State.runCall (c : Call) (s : State) : Host.Outcome State Fault Refusal :=
  match c.decode with
  | .ok i => exec i s
  | .error e => .refused (.undecodable e)

/-- One step: the presented call if there is one and reset is released, else the next move. -/
def step (s : State) : Host.Outcome State Fault Refusal :=
  match s.port, s.resetHeld with
  | some c, false => { s with port := none }.runCall c
  | _, _ => s.nextMove.2.take s.nextMove.1

/-- The state whose next step runs the row that these bits hold: the bytes stand on the port, and reset is released, since
no call runs while it is asserted (log 3). -/
def State.withFetchWord (s : State) (nbits w : Nat) : State :=
  { s with port := some (.bytes (tableBytes nbits w)), resetHeld := false }

end Sys2Proof.Machine
end

