-- ==== Sys2Proof/Safety.lean ====
section
/-! DEFINITION. The terms in which claims speak of the machine: the type constraints of the configuration (R9), the real
angle (R176), the words of a register (R97), what a prompt link does, and the conditions a safe run keeps (R42, R97, R123,
R171, R208, R209). -/

namespace Sys2Proof

/-- The type column of R9's table, which the hardware does not check: positive ratios and tick counts, periods in
1..2^31-1, a profile that a 32-bit index can walk, a positive flag width that STEPS can hold (R238); and the
well-formedness of REGMAP and RESPMAP (R90, R95). -/
def Config.wf (c : Config) : Bool :=
  decide (0 < c.gearNum) && decide (0 < c.gearDen) && decide (0 < c.microstepsPerRev)
    && decide (0 < c.homingPeriod.toInt) && decide (0 < c.defaultPeriod.toInt)
    && decide (c.profile.length < 2 ^ 32)
    && decide (1 ≤ c.testDelayTicks) && decide (1 ≤ c.testTickBudget)
    && decide (0 < c.flagWidthSteps) && decide (c.wrapSteps (-c.flagWidthSteps) = -c.flagWidthSteps)
    && decide (0 < c.posWidth) && c.regMap.wf && c.respMap.wf

/-- The step counts that POS_WIDTH bits of two's complement hold (R24). -/
def Config.holdsSteps (c : Config) (n : Int) : Prop := -(2 ^ c.posWidth : Int) ≤ 2 * n ∧ 2 * n < 2 ^ c.posWidth

/-! ## The angle -/

/-- `K = 2π × GEAR_DEN / (GEAR_NUM × MICROSTEPS_PER_REV)`, the radians of one step (R177). -/
noncomputable def stepAngle (c : Config) : ℝ := 2 * Real.pi * c.gearDen / (c.gearNum * c.microstepsPerRev)

/-- angleOf (R176): the tracked angle in radians, an exact real number. -/
noncomputable def angleOf (c : Config) (n : Int) : ℝ :=
  (n / c.microstepsPerRev) * (c.gearDen / c.gearNum) * (2 * Real.pi)

/-- The thresholds of the configuration are those R177 gives for these bounds and the exact angle. -/
def Config.ExactThresholds (c : Config) (upper lower : ℝ) : Prop :=
  c.upperSteps = ⌊upper / stepAngle c⌋ ∧ c.lowerSteps = ⌈lower / stepAngle c⌉

/-- The thresholds of the configuration stand for this angleOf, the exact one or a rounded one (R10, R177), and these
bounds: on every count STEPS can hold, beyond a threshold is strictly beyond a bound. -/
def Config.LimitsFor (c : Config) (angle : Int → ℝ) (upper lower : ℝ) : Prop :=
  ∀ n : Int, c.holdsSteps n → (c.upperSteps < n ↔ upper < angle n) ∧ (n < c.lowerSteps ↔ angle n < lower)

/-! ## Words of a register -/

/-- A word has the layout's base template and no bit outside its fields (R97). -/
def RegMap.holdsWord (m : RegMap) (l : Layout) (w : Word20) : Bool := w &&& ~~~m.fieldBits l == m.base l

/-- REGMAP is well formed (R90), and the literal base 0xEF000 of a status read is a DRVCONF word under it, as it is under
the default map (R89). -/
def Config.mapFits (c : Config) : Bool := c.regMap.wf && c.regMap.holdsWord .drvconf drvconfReadOnlyBase

namespace Machine

/-! ## A prompt link -/

/-- Ready to start an exchange: LINK_TXE = 1, nothing received, not busy, no source of the highest level pending. -/
def State.linkReady (s : State) : Prop :=
  s.link.txe = true ∧ s.link.rxne = false ∧ s.link.bsy = false ∧ s.pend.high = false

/-- What a link does that answers one exchange with three bytes and lets each delay elapse, with no other event. -/
def exchangeMoves (r0 r1 r2 : Byte) : List Move :=
  [.link (.received r0), .link .elapsed, .link (.received r1), .link .elapsed, .link (.received r2), .link .elapsed]

/-- The port events of one exchange (95 section 3.2). -/
def exchangeEvents (t0 t1 t2 : Byte) : List PortEvent :=
  [.chipSelect true, .linkTx t0, .linkTx t1, .linkTx t2, .chipSelect false]

/-- The port events of the exchange that carries a word. -/
def wordEvents (w : Word20) : List PortEvent :=
  exchangeEvents (packBytes w).1 (packBytes w).2.1 (packBytes w).2.2

/-- The state after one prompt exchange whose last byte was `r2`: the moves it took are gone, its events are recorded. -/
def State.afterExchange (r2 : Byte) (rest : List Move) (events : List PortEvent) (s : State) : State :=
  { s with csLine := false, link := { s.link with rx := r2, rxne := false }, script := rest, out := s.out ++ events }

/-- The state after a prompt status read of `kind` that sent `w` twice and received `a` and then `r` (R150): the cache
holds the word, one TELEMETRY event with the record of the second response follows the two exchanges. -/
def State.afterStatusRead (kind : StatusKind) (w : Word20) (r : Byte × Byte × Byte) (rest : List Move) (s : State) :
    State :=
  let d := demuxResponse s.cfg.respMap kind (unpackBytes r.1 r.2.1 r.2.2)
  { s.afterExchange r.2.2 rest (wordEvents w ++ wordEvents w ++ [.telemetry d.position d.sg d.cs d.status]) with
    reg := { s.reg with drvconf := w }
    valid := { s.valid with drvconf := true } }

/-- The words DRIVER_INIT sends for the record INIT under REGMAP, with DRVCTRL (R160). -/
def initWords (c : Config) : PerReg Word20 :=
  let n := c.init
  { drvctrl := c.regMap.word .drvctrlSd [n.intpol, n.dedge, n.mres]
    chopconf := c.regMap.word .chopconf [n.tbl, n.chm, n.rndtf, n.hdec, n.hend, n.hstrt, n.toff]
    smarten := c.regMap.word .smarten [n.seimin, n.sedn, n.semax, n.seup, n.semin]
    sgcsconf := c.regMap.word .sgcsconf [n.sfilt, n.sgt, n.cs]
    drvconf := c.regMap.word .drvconf [n.tst, n.slph, n.slpl, n.diss2g, n.ts2g, n.sdoff, n.vsense, n.rdsel] }

/-- The state after a prompt DRIVER_INIT with a valid record (R160): five exchanges, five caches, the driver enabled. -/
def State.afterDriverInit (r2 : Byte) (rest : List Move) (s : State) : State :=
  let w := initWords s.cfg
  { s.afterExchange r2 rest (wordEvents w.drvctrl ++ wordEvents w.chopconf ++ wordEvents w.smarten
      ++ wordEvents w.sgcsconf ++ wordEvents w.drvconf) with
    reg := w
    valid := ⟨true, true, true, true, true⟩
    enLine := true }

/-- The state after a prompt DRIVER_INIT whose DRVCTRL fields are refused (R160): four exchanges, REG[0] and VALID[0] as
they were. -/
def State.afterDriverInitInvalid (r2 : Byte) (rest : List Move) (s : State) : State :=
  let w := initWords s.cfg
  { s.afterExchange r2 rest (wordEvents w.chopconf ++ wordEvents w.smarten ++ wordEvents w.sgcsconf
      ++ wordEvents w.drvconf) with
    reg := { w with drvctrl := s.reg.drvctrl }
    valid := ⟨s.valid.drvctrl, true, true, true, true⟩
    enLine := true }

/-- The moves of a prompt link for one exchange that answers three bytes. -/
def answerMoves (r : Byte × Byte × Byte) : List Move := exchangeMoves r.1 r.2.1 r.2.2

/-- A transition to `t` (R187): the state, its tick counter zeroed, no sweep alive. -/
def State.entered (t : TiltState) (s : State) : State := { s with tilt := t, ticks := 0, profileActive := false }

/-- The state routine's row of each state that has one (R188). -/
def routineOf : TiltState → Option Instr
  | .initial => some .initializeTick
  | .home => some .homeTick
  | .testDelay => some .testdelayTick
  | .tiltTable => some .tilttableTick
  | .testClockwise => some .testTickCw
  | .testCounterClockwise => some .testTickCcw
  | .error => none

/-! ## Conditions on states -/

/-- No harness call is presented: the block runs by its events alone. -/
def State.harnessFree (s : State) : Prop := s.port = none

/-- The words a register's cache can hold: a layout of the register with no reserved bit set (R97). -/
def wordOf (m : RegMap) (r : RegId) (w : Word20) : Bool :=
  match r with
  | .drvctrl => m.holdsWord .drvctrlSd w || m.holdsWord .drvctrlSpi w
  | .chopconf => m.holdsWord .chopconf w
  | .smarten => m.holdsWord .smarten w
  | .sgcsconf => m.holdsWord .sgcsconf w
  | .drvconf => m.holdsWord .drvconf w

/-- The opcode table's pattern of a register's words (R84 to R89); a DRVCTRL_SD word is a DRVCTRL_SPI word too. -/
def patternOf : RegId → Pattern
  | .drvctrl => .drvctrlSpi
  | .chopconf => .chopconf
  | .smarten => .smarten
  | .sgcsconf => .sgcsconf
  | .drvconf => .drvconf

/-- The writes of caches still to come in an operation write words of their register. -/
def microFormed (m : RegMap) : Micro → Bool
  | .commit r w => wordOf m r w
  | _ => true

/-- Every cache that was ever written holds a word of its register, and every commit to come writes one (R97). -/
def State.CachesFormed (s : State) : Prop :=
  (∀ r, s.valid.get r = true → wordOf s.cfg.regMap r (s.reg.get r) = true) ∧
    ∀ t ∈ s.tasks, ∀ m ∈ t.todo, microFormed s.cfg.regMap m = true

/-- R42 (c): an active sweep is in TiltTable, its index in the table and the entry there positive; and some tick of this
entry to TiltTable has been counted, since ENTER clears both TICKS and the sweep (R187) and tick 1 starts it (R203). -/
def State.SweepSound (s : State) : Prop :=
  s.profileActive = true → s.tilt = .tiltTable ∧ s.ticks ≠ 0 ∧ s.profileIdx.toNat < s.cfg.profile.length ∧
    ∃ p, profileEntry s.cfg s.profileIdx = some p ∧ 0 < p.toInt

/-- A running step timer has a direction that is not Stopped (R171, R174). -/
def State.TurnsWhenTimed (s : State) : Prop := s.tmrRun = true → s.direction ≠ .stopped

/-- A running step timer has a period in 1..2^31-1 (R31). -/
def State.PeriodInRange (s : State) : Prop := s.tmrRun = true → 0 < s.tmrPeriod.toInt

/-- STEPS is a number of POS_WIDTH bits (R24). -/
def State.StepsFit (s : State) : Prop := s.cfg.holdsSteps s.steps

/-- Where the wire stands: outside a frame, or inside one with some bytes sent (R67, R123). -/
inductive Wire where
  | idle
  | open (sent : Nat)
  deriving DecidableEq, Repr

/-- One event on the wire: a frame opens on an idle wire, takes up to three bytes, and closes after exactly
three; reset cuts a frame (R280). -/
def Wire.next (w : Wire) (e : PortEvent) : Option Wire :=
  match w, e with
  | .idle, .chipSelect true => some (.open 0)
  | .open n, .linkTx _ => if n < 3 then some (.open (n + 1)) else none
  | .open n, .chipSelect false => if n = 3 then some .idle else none
  | w, .telemetry _ _ _ _ => some w
  | w, .debug => some w
  | _, .reset => some .idle
  | _, _ => none

/-- The wire after a record of events, none if some event broke the framing. -/
def Wire.after (w : Wire) : List PortEvent → Option Wire
  | [] => some w
  | e :: es => (w.next e).bind fun w' => w'.after es

/-- The event on the wire that a line of an operation makes. -/
def wireEvent : Micro → List PortEvent
  | .chipSelect b => [.chipSelect b]
  | .send t => [.linkTx t]
  | _ => []

/-- Chip-select framing (R42 d, R123): the events so far are frames of exactly three bytes, CS_LINE is asserted just inside
a frame, and what is left of the one operation in progress closes the frame it is in. -/
def State.WellFramed (s : State) : Prop :=
  ∃ w, Wire.idle.after s.out = some w ∧ (s.csLine = true ↔ w ≠ .idle) ∧
    match s.tasks with
    | [] => w = .idle
    | [t] => w.after (t.todo.flatMap wireEvent) = some .idle
    | _ => False

/-- The states that the documented transitions reach from reset (R208). -/
def documented : TiltState → Bool
  | .initial | .home | .testDelay | .tiltTable => true
  | .testClockwise | .testCounterClockwise | .error => false

/-- An ENTER still to come in an operation enters a documented state. -/
def microDocumented : Micro → Bool
  | .enter t => documented t
  | _ => true

/-- The state is one of R208's four, and so is every state an operation in progress will enter. -/
def State.Documented (s : State) : Prop :=
  documented s.tilt = true ∧ ∀ t ∈ s.tasks, ∀ m ∈ t.todo, microDocumented m = true

/-- The transition table of R209, with "no transition" for every state. -/
def transition (a b : TiltState) : Bool :=
  a == b ||
  match a, b with
  | .initial, .home => true
  | .home, .testDelay => true
  | .testDelay, .tiltTable => true
  | .testClockwise, .testCounterClockwise => true
  | .testCounterClockwise, .testClockwise => true
  | .testDelay, .home => true
  | .tiltTable, .home => true
  | .testClockwise, .home => true
  | .testCounterClockwise, .home => true
  | _, _ => false

/-- An ENTER that an operation still has to make is its last line and belongs to the state it runs in: Home from
Initialize, TiltTable from TestDelay (R192, R198). -/
def entersFit (a : TiltState) : List Micro → Bool
  | [] => true
  | .enter t :: rest => a == .initial && t == .home && rest.isEmpty
  | .testDelayExit :: rest => a == .testDelay && rest.isEmpty
  | _ :: rest => entersFit a rest

/-- At most one operation is in progress, and the ENTER it has to make fits the present state. -/
def State.EntersFit (s : State) : Prop :=
  match s.tasks with
  | [] => True
  | [t] => entersFit s.tilt t.todo = true
  | _ => False

/-! ## Operations in progress -/

/-- The caches after the commits among these lines (R147). -/
def State.committed : List Micro → State → State
  | [], s => s
  | .commit r w :: ms, s => (s.commit r w).committed ms
  | _ :: ms, s => s.committed ms

/-- What one segment of a setter leads to (R147), from `s` with `todo` left and `below` standing under it: either it is
held, with the commit still to come as the last thing before its return, and no cache is changed; or it has ended, with
chip-select released, and its own cache is written and no other. -/
def SetterSegment (r : RegId) (w : Word20) (todo : List Micro) (below : List Task) (s t : State) : Prop :=
  (∃ rest rx, t.tasks = ⟨rest, rx⟩ :: below ∧ rest <:+ todo ∧ [.commit r w, .returnCode .ok] <:+ rest ∧
      t.reg = s.reg ∧ t.valid = s.valid ∧ t.result = s.result ∧ (t.csLine = false ∨ .chipSelect false ∈ rest)) ∨
    (t.tasks = below ∧ t.reg = s.reg.set r w ∧ t.valid = s.valid.set r true ∧ t.result = .code .ok ∧ t.csLine = false)

/-- What one segment of DRIVER_INIT, STATUS_READ or a state routine that calls one leads to, from `s` with `todo` left and
`below` standing under it. The lines it has done have made their commits, and what is left has not (R147). Where it is held,
the lines that stand after the last exchange have had no effect: the enable line, the state with its tick count and its
sweep, and the result are as they were (R160, R192, R198). Where nothing is left, they have had theirs. -/
def LinesInOrder (todo : List Micro) (below : List Task) (s t : State) : Prop :=
  ∃ did rest, todo = did ++ rest ∧ t.reg = (s.committed did).reg ∧ t.valid = (s.committed did).valid ∧
    ((rest ≠ [] ∧ (∃ rx, t.tasks = ⟨rest, rx⟩ :: below) ∧ t.enLine = s.enLine ∧ t.tilt = s.tilt ∧ t.ticks = s.ticks ∧
        t.profileActive = s.profileActive ∧ t.result = s.result) ∨
      (rest = [] ∧ t.tasks = below ∧ (.enable true ∈ todo → t.enLine = true) ∧
        (.enter .home ∈ todo → t.tilt = .home ∧ t.ticks = 0 ∧ t.profileActive = false) ∧
        (.testDelayExit ∈ todo →
          if s.cfg.testDelayTicks ≤ s.ticks.toNat then t.tilt = .tiltTable ∧ t.ticks = 0 ∧ t.profileActive = false
          else t.tilt = s.tilt ∧ t.ticks = s.ticks ∧ t.profileActive = s.profileActive)))

/-- The machine after so many steps, none if one of them stopped. -/
def stepsFrom : Nat → State → Option State
  | 0, s => some s
  | n + 1, s => match step s with
    | .next t => stepsFrom n t
    | .fault _ | .refused _ => none

/-! ## Pulses and expiries -/

/-- Pulses in given directions, one after another (R178). -/
def State.pulses : List Turn → State → State
  | [], s => s
  | d :: ds, s => ((s.turnTo d.toDirection).pulse).pulses ds

/-- `n` expiries of the step timer served one after another (R225). -/
def State.expiries : Nat → State → State
  | 0, s => s
  | n + 1, s => ((s.enterHandler .step).stepExpiryBody).expiries n

/-- The number of leading positive entries of a profile (R225). -/
def leadingPositive : List Word32 → Nat
  | [] => 0
  | p :: ps => if 0 < p.toInt then leadingPositive ps + 1 else 0

end Machine

end Sys2Proof
end

