-- ==== Sys2Proof/Certificates/Slice0/Obligations.lean ====
section
/-! DEFINITION. The statements for the provers. A rule is cited by its number; "log n" is an entry of notes/assumptions.
A statement whose conclusion is `exec i s = .next { s with ... }` says the result and the frame at once: every field that
is not named is unchanged. -/

open Sys2Proof Sys2Proof.Machine

/-! ## Formats (spec 30). That a format row answers the value its rule gives is the model's choice, log 4. -/

/-- The eleven format rows. TXFRAME (R81): four zero bits and the word, as bytes in wire order. RXFRAME (R82): the response,
the low four bits discarded. DRVCTRL_SD to DRVCONF (R84 to R89): the word of the pattern, every field in its place and
every reserved bit 0. RESP_POS, RESP_SG, RESP_SGCS (R93 to R95): the lanes, the ignored bits dropped, the fields of other
kinds zero. The rows' meaning as a value is log 4, the positions are logs 5 and 6. -/
def Obligations.FormatRowsGiveTheirContents : Prop :=
  ∀ s : State,
    (∀ w : Word20, exec (.txframe w) s =
      .next { s with result := .frame (0#4 ++ w.extractLsb' 16 4) (w.extractLsb' 8 8) (w.extractLsb' 0 8) }) ∧
    (∀ (r : Word20) (x : BitVec 4), exec (.rxframe r x) s = .next { s with result := .word r }) ∧
    (∀ (intpol dedge : BitVec 1) (mres : BitVec 4),
      exec (.drvctrlSd intpol dedge mres) s = .next { s with result := .word (0#10 ++ intpol ++ dedge ++ 0#4 ++ mres) }) ∧
    (∀ (pha : BitVec 1) (ca : BitVec 8) (phb : BitVec 1) (cb : BitVec 8),
      exec (.drvctrlSpi pha ca phb cb) s = .next { s with result := .word (0#2 ++ pha ++ ca ++ phb ++ cb) }) ∧
    (∀ (tbl : BitVec 2) (chm rndtf : BitVec 1) (hdec : BitVec 2) (hend : BitVec 4) (hstrt : BitVec 3) (toff : BitVec 4),
      exec (.chopconf tbl chm rndtf hdec hend hstrt toff) s =
        .next { s with result := .word (4#3 ++ tbl ++ chm ++ rndtf ++ hdec ++ hend ++ hstrt ++ toff) }) ∧
    (∀ (seimin : BitVec 1) (sedn : BitVec 2) (semax : BitVec 4) (seup : BitVec 2) (semin : BitVec 4),
      exec (.smarten seimin sedn semax seup semin) s =
        .next { s with result := .word (0xA#4 ++ seimin ++ sedn ++ 0#1 ++ semax ++ 0#1 ++ seup ++ 0#1 ++ semin) }) ∧
    (∀ (sfilt : BitVec 1) (sgt : BitVec 7) (cs : BitVec 5),
      exec (.sgcsconf sfilt sgt cs) s = .next { s with result := .word (6#3 ++ sfilt ++ 0#1 ++ sgt ++ 0#3 ++ cs) }) ∧
    (∀ (tst : BitVec 1) (slph slpl : BitVec 2) (diss2g : BitVec 1) (ts2g : BitVec 2) (sdoff vsense : BitVec 1)
        (rdsel : BitVec 2),
      exec (.drvconf tst slph slpl diss2g ts2g sdoff vsense rdsel) s =
        .next { s with
          result := .word (7#3 ++ tst ++ slph ++ slpl ++ 0#1 ++ diss2g ++ ts2g ++ sdoff ++ vsense ++ rdsel ++ 0#4) }) ∧
    (∀ (v : BitVec 10) (sgh se : BitVec 5) (x : BitVec 2) (status : Byte),
      exec (.respPos v x status) s = .next { s with result := .status ⟨.position, v, 0, 0, status⟩ } ∧
      exec (.respSg v x status) s = .next { s with result := .status ⟨.stallGuardLevel, 0, v, 0, status⟩ } ∧
      exec (.respSgcs sgh se x status) s =
        .next { s with result := .status ⟨.stallGuardAndCurrent, 0, sgh.setWidth 10, se, status⟩ })

/-! ## Datagram Codec (spec 40). The value an operation returns stands in `result` (log 16). -/

/-- PACK (R110): the bytes of the word behind four zero bits, no other state, and no two words with the same bytes. -/
def Obligations.PackSplitsPaddedWord : Prop :=
  (∀ (w : Word20) (s : State),
    exec (.pack w) s =
      .next { s with result := .frame (0#4 ++ w.extractLsb' 16 4) (w.extractLsb' 8 8) (w.extractLsb' 0 8) }) ∧
    ∀ v w : Word20, packBytes v = packBytes w → v = w

/-- UNPACK (R111): bits 23..4 of the concatenated bytes, whatever they are; the low four bits never reach the result. R112
(a), (b): unpacking a packed word gives `w >> 4`, not `w`; the word is bits 19..0 of its frame. -/
def Obligations.UnpackTakesUpperTwentyBits : Prop :=
  (∀ (b0 b1 b2 : Byte) (s : State),
    exec (.unpack b0 b1 b2) s = .next { s with result := .word ((b0 ++ b1 ++ b2 : BitVec 24).extractLsb' 4 20) }) ∧
    ∀ w : Word20,
      unpackBytes (packBytes w).1 (packBytes w).2.1 (packBytes w).2.2 = w >>> 4 ∧
        (frame24 (packBytes w).1 (packBytes w).2.1 (packBytes w).2.2).extractLsb' 0 20 = w

/-! ## Transport (spec 41). The link's answers are moves of the environment (log 2); a prompt link is one that answers each
wait and lets each delay elapse with no other event. -/

/-- XFER_BYTE (R121) on a prompt link: one byte out, one byte in, LINK_RXNE dropped, the byte returned. -/
def Obligations.ByteTransferCompletes : Prop :=
  ∀ (t r : Byte) (rest : List Move) (s : State), s.linkReady → s.script = .link (.received r) :: rest →
    exec (.xferByte t) s =
      .next { s with
        link := { s.link with rx := r, rxne := false }
        script := rest
        out := s.out ++ [.linkTx t]
        result := .byte r }

/-- EXCHANGE (R123) on a prompt link: chip-select, exactly three bytes out in order and three in, chip-select released;
the three received bytes are returned. -/
def Obligations.ExchangeCompletes : Prop :=
  ∀ (t0 t1 t2 r0 r1 r2 : Byte) (rest : List Move) (s : State), s.linkReady →
    s.script = exchangeMoves r0 r1 r2 ++ rest →
    exec (.exchange t0 t1 t2) s =
      .next { s with
        csLine := false
        link := { s.link with rx := r2, rxne := false }
        script := rest
        out := s.out ++ [.chipSelect true, .linkTx t0, .linkTx t1, .linkTx t2, .chipSelect false]
        result := .frame r0 r1 r2 }

/-- R124: the third byte's arrival is not enough to release chip-select. With the link still busy after it, and nothing
more from the link, the exchange is held inside the frame: CS_LINE stays asserted and the result is not there. -/
def Obligations.ExchangeHoldsChipSelectWhileBusy : Prop :=
  ∀ (t0 t1 t2 r0 r1 r2 : Byte) (s : State), s.linkReady →
    s.script = [.link (.received r0), .link .elapsed, .link (.received r1), .link .elapsed, .link (.bsy true),
      .link (.received r2)] →
    ∃ t, exec (.exchange t0 t1 t2) s = .next t ∧ t.csLine = true ∧ t.result = s.result ∧
      t.out = s.out ++ [.chipSelect true, .linkTx t0, .linkTx t1, .linkTx t2] ∧
      t.tasks = ⟨[.wait .idle, .chipSelect false, .guard .transaction, .returnFrame], ⟨r0, r1, r2⟩⟩ :: s.tasks

/-- R127, R255: while the condition it waits for does not hold and nothing else happens, a held operation stands still
for ever: the block's moves change nothing. A pending source of the highest level is served all the same. -/
def Obligations.StuckWaitBlocksOnlyItsCaller : Prop :=
  ∀ (w : Wait) (rest : List Micro) (rx : Received) (ts : List Task) (first : Source) (ms : List Move) (s : State),
    s.port = none → s.resetHeld = false → s.tasks = ⟨.wait w :: rest, rx⟩ :: ts → s.link.meets w = false →
    s.script = .block first :: ms → (∀ a m, ms ≠ .link a :: m) →
    (s.pend.high = false → step s = .next { s with script := ms }) ∧
      (s.pend.high = true → ∃ k, k ≠ .tick ∧ s.pend.get k = true ∧ step s = exec (handlerOf k) { s with script := ms })

/-- R260, R262: a held operation goes on from the line where it stood, with the bytes it has received, line by line: what a
move of the block does with lines still to come is what it does once the first of them has had its effect (R121 to R125,
R147, R150, R160, R187, R198). A wait whose condition holds is passed; at one that does not, and at a delay that has not
elapsed, the decided moves of the link are taken, and with none it stands (log 12). So an exchange that is held after each
of its bytes and at each delay ends as one that was never held. -/
def Obligations.HeldOperationGoesOn : Prop :=
  (∀ (first : Source) (ms : List Move) (rest : List Micro) (rx : Received) (below : List Task) (s : State),
    s.port = none → s.resetHeld = false → s.pend.high = false →
    let held (todo : List Micro) (rx : Received) (ms : List Move) (u : State) : State :=
      { u with tasks := ⟨todo, rx⟩ :: below, script := .block first :: ms }
    step (held [] rx ms s) = .next { s with tasks := below, script := ms } ∧
    (∀ w, s.link.meets w = true → step (held (.wait w :: rest) rx ms s) = step (held rest rx ms s)) ∧
    (∀ w a, s.link.meets w = false →
      step (held (.wait w :: rest) rx (.link a :: ms) s) =
        step (held (.wait w :: rest) rx ms { s with link := s.link.act a })) ∧
    (∀ w, s.link.meets w = false → (∀ a l, ms ≠ .link a :: l) →
      step (held (.wait w :: rest) rx ms s) = .next { s with tasks := ⟨.wait w :: rest, rx⟩ :: below, script := ms }) ∧
    (∀ g, step (held (.guard g :: rest) rx (.link .elapsed :: ms) s) = step (held rest rx ms s)) ∧
    (∀ g a, a ≠ .elapsed →
      step (held (.guard g :: rest) rx (.link a :: ms) s) =
        step (held (.guard g :: rest) rx ms { s with link := s.link.act a })) ∧
    (∀ g, (∀ a l, ms ≠ .link a :: l) →
      step (held (.guard g :: rest) rx ms s) = .next { s with tasks := ⟨.guard g :: rest, rx⟩ :: below, script := ms }) ∧
    (∀ b, step (held (.chipSelect b :: rest) rx ms s) =
      step (held rest rx ms { s with csLine := b, out := s.out ++ [.chipSelect b] })) ∧
    (∀ t, step (held (.send t :: rest) rx ms s) = step (held rest rx ms { s with out := s.out ++ [.linkTx t] })) ∧
    (∀ slot, step (held (.recv slot :: rest) rx ms s) =
      step (held rest (rx.set slot s.link.rx) ms { s with link := { s.link with rxne := false } })) ∧
    (∀ r w, step (held (.commit r w :: rest) rx ms s) =
      step (held rest rx ms { s with reg := s.reg.set r w, valid := s.valid.set r true })) ∧
    (∀ b, step (held (.enable b :: rest) rx ms s) = step (held rest rx ms { s with enLine := b })) ∧
    (∀ t, step (held (.enter t :: rest) rx ms s) = step (held rest rx ms (s.entered t))) ∧
    step (held (.testDelayExit :: rest) rx ms s) =
      step (held rest rx ms (if s.cfg.testDelayTicks ≤ s.ticks.toNat then s.entered .tiltTable else s)) ∧
    (∀ k, let d := demuxResponse s.cfg.respMap k (unpackBytes rx.r0 rx.r1 rx.r2)
      step (held (.telemetry k :: rest) rx ms s) =
        step (held rest rx ms { s with out := s.out ++ [.telemetry d.position d.sg d.cs d.status] }) ∧
      step (held (.returnStatus k :: rest) rx ms s) = step (held rest rx ms { s with result := .status d })) ∧
    step (held (.returnByte :: rest) rx ms s) = step (held rest rx ms { s with result := .byte rx.r0 }) ∧
    step (held (.returnFrame :: rest) rx ms s) =
      step (held rest rx ms { s with result := .frame rx.r0 rx.r1 rx.r2 }) ∧
    ∀ c, step (held (.returnCode c :: rest) rx ms s) = step (held rest rx ms { s with result := .code c })) ∧
  ∀ (t0 t1 t2 r0 r1 r2 : Byte) (k : Source) (ms : List Move) (s : State), s.linkReady → s.port = none →
    s.resetHeld = false → s.script = ((exchangeMoves r0 r1 r2).flatMap fun m => [.block k, m]) ++ ms →
    ∃ u rest rx, exec (.exchange t0 t1 t2) s = .next u ∧ u.tasks = ⟨rest, rx⟩ :: s.tasks ∧ u.result = s.result ∧
      stepsFrom 6 u = some { s with
        csLine := false
        link := { s.link with rx := r2, rxne := false }
        script := ms
        out := s.out ++ [.chipSelect true, .linkTx t0, .linkTx t1, .linkTx t2, .chipSelect false]
        result := .frame r0 r1 r2 }

/-- The moves of the link (R47, R122, R125): LINK_TXE and LINK_BSY take a level; a received byte stands on LINK_RX and
LINK_RXNE rises (log 18); the end of a delay lets an operation that stands at one pass it and is nothing else. They are
taken in reset too. -/
def Obligations.LinkMovesSetPorts : Prop :=
  ∀ (ms : List Move) (s : State), s.port = none ∨ s.resetHeld = true →
    (∀ b, s.script = .link (.txe b) :: ms → step s = .next { s with script := ms, link := { s.link with txe := b } }) ∧
    (∀ b, s.script = .link (.bsy b) :: ms → step s = .next { s with script := ms, link := { s.link with bsy := b } }) ∧
    (∀ b, s.script = .link (.received b) :: ms →
      step s = .next { s with script := ms, link := { s.link with rx := b, rxne := true } }) ∧
    (s.script = .link .elapsed :: ms →
      (∀ g rest rx below, s.tasks = ⟨.guard g :: rest, rx⟩ :: below →
        step s = .next { s with script := ms, tasks := ⟨rest, rx⟩ :: below }) ∧
      ((∀ g rest rx below, s.tasks ≠ ⟨.guard g :: rest, rx⟩ :: below) → step s = .next { s with script := ms }))

/-! ## Driver Register Model (spec 42) -/

/-- SET_DRVCTRL, step/direction form (R141, R148): INTPOL and DEDGE must be 0 or 1; then the word is sent in one exchange,
REG[0] and VALID[0] are written and the result is Ok; otherwise the result is InvalidInput and nothing else changes. The word is assembled by
REGMAP (R90, R91); the literal word assumes its default (log 5), here and in the five statements that follow. -/
def Obligations.SetDrvctrlStepDirectionForm : Prop :=
  ∀ (intpol dedge mres : Word32) (s : State),
    ((intpol = 0 ∨ intpol = 1) → (dedge = 0 ∨ dedge = 1) →
      ∀ (r : Byte × Byte × Byte) (rest : List Move), s.linkReady → s.script = answerMoves r ++ rest →
      ∃ w : Word20, w = s.cfg.regMap.word .drvctrlSd [intpol, dedge, mres] ∧
        (s.cfg.regMap = .default → w.setWidth 32 =
          (intpol <<< 9) ||| (dedge <<< 8) ||| (mres &&& 0xF)) ∧
        exec (.setDrvctrlSd intpol dedge mres) s =
          .next { s.afterExchange r.2.2 rest (wordEvents w) with
            reg := { s.reg with drvctrl := w }
            valid := { s.valid with drvctrl := true }
            result := .code .ok }) ∧
    (¬((intpol = 0 ∨ intpol = 1) ∧ (dedge = 0 ∨ dedge = 1)) →
      exec (.setDrvctrlSd intpol dedge mres) s = .next { s with result := .code .invalidInput })

/-- SET_DRVCTRL, direct-phase form (R142, R148): PHA and PHB must be 0 or 1; REG[0] again. -/
def Obligations.SetDrvctrlDirectPhaseForm : Prop :=
  ∀ (pha ca phb cb : Word32) (s : State),
    ((pha = 0 ∨ pha = 1) → (phb = 0 ∨ phb = 1) →
      ∀ (r : Byte × Byte × Byte) (rest : List Move), s.linkReady → s.script = answerMoves r ++ rest →
      ∃ w : Word20, w = s.cfg.regMap.word .drvctrlSpi [pha, ca, phb, cb] ∧
        (s.cfg.regMap = .default → w.setWidth 32 =
          (pha <<< 17) ||| ((ca &&& 0xFF) <<< 9) ||| (phb <<< 8) ||| (cb &&& 0xFF)) ∧
        exec (.setDrvctrlSpi pha ca phb cb) s =
          .next { s.afterExchange r.2.2 rest (wordEvents w) with
            reg := { s.reg with drvctrl := w }
            valid := { s.valid with drvctrl := true }
            result := .code .ok }) ∧
    (¬((pha = 0 ∨ pha = 1) ∧ (phb = 0 ∨ phb = 1)) →
      exec (.setDrvctrlSpi pha ca phb cb) s = .next { s with result := .code .invalidInput })

/-- SET_CHOPCONF (R143): every field masked, none validated. -/
def Obligations.SetChopconfSendsAndCommits : Prop :=
  ∀ (tbl chm rndtf hdec hend hstrt toff : Word32) (r : Byte × Byte × Byte) (rest : List Move) (s : State),
    s.linkReady → s.script = answerMoves r ++ rest →
    ∃ w : Word20, w = s.cfg.regMap.word .chopconf [tbl, chm, rndtf, hdec, hend, hstrt, toff] ∧
      (s.cfg.regMap = .default → w.setWidth 32 =
        0x80000 ||| ((tbl &&& 3) <<< 15) ||| ((chm &&& 1) <<< 14) ||| ((rndtf &&& 1) <<< 13) ||| ((hdec &&& 3) <<< 11) ||| ((hend &&& 0xF) <<< 7) ||| ((hstrt &&& 7) <<< 4) ||| (toff &&& 0xF)) ∧
      exec (.setChopconf tbl chm rndtf hdec hend hstrt toff) s =
        .next { s.afterExchange r.2.2 rest (wordEvents w) with
          reg := { s.reg with chopconf := w }
          valid := { s.valid with chopconf := true }
          result := .code .ok }

/-- SET_SMARTEN (R144): every field masked, none validated. -/
def Obligations.SetSmartenSendsAndCommits : Prop :=
  ∀ (seimin sedn semax seup semin : Word32) (r : Byte × Byte × Byte) (rest : List Move) (s : State),
    s.linkReady → s.script = answerMoves r ++ rest →
    ∃ w : Word20, w = s.cfg.regMap.word .smarten [seimin, sedn, semax, seup, semin] ∧
      (s.cfg.regMap = .default → w.setWidth 32 =
        0xA0000 ||| ((seimin &&& 1) <<< 15) ||| ((sedn &&& 3) <<< 13) ||| ((semax &&& 0xF) <<< 8) ||| ((seup &&& 3) <<< 5) ||| (semin &&& 0xF)) ∧
      exec (.setSmarten seimin sedn semax seup semin) s =
        .next { s.afterExchange r.2.2 rest (wordEvents w) with
          reg := { s.reg with smarten := w }
          valid := { s.valid with smarten := true }
          result := .code .ok }

/-- SET_SGCSCONF (R145): every field masked, a negative threshold by its two's complement. -/
def Obligations.SetSgcsconfSendsAndCommits : Prop :=
  ∀ (sfilt sgt cs : Word32) (r : Byte × Byte × Byte) (rest : List Move) (s : State),
    s.linkReady → s.script = answerMoves r ++ rest →
    ∃ w : Word20, w = s.cfg.regMap.word .sgcsconf [sfilt, sgt, cs] ∧
      (s.cfg.regMap = .default → w.setWidth 32 =
        0xC0000 ||| ((sfilt &&& 1) <<< 16) ||| ((sgt &&& 0x7F) <<< 8) ||| (cs &&& 0x1F)) ∧
      exec (.setSgcsconf sfilt sgt cs) s =
        .next { s.afterExchange r.2.2 rest (wordEvents w) with
          reg := { s.reg with sgcsconf := w }
          valid := { s.valid with sgcsconf := true }
          result := .code .ok }

/-- SET_DRVCONF (R146): every field masked, SDOFF and RDSEL = 3 included. -/
def Obligations.SetDrvconfSendsAndCommits : Prop :=
  ∀ (tst slph slpl diss2g ts2g sdoff vsense rdsel : Word32) (r : Byte × Byte × Byte) (rest : List Move) (s : State),
    s.linkReady → s.script = answerMoves r ++ rest →
    ∃ w : Word20, w = s.cfg.regMap.word .drvconf [tst, slph, slpl, diss2g, ts2g, sdoff, vsense, rdsel] ∧
      (s.cfg.regMap = .default → w.setWidth 32 =
        0xE0000 ||| ((tst &&& 1) <<< 16) ||| ((slph &&& 3) <<< 14) ||| ((slpl &&& 3) <<< 12) ||| ((diss2g &&& 1) <<< 10) ||| ((ts2g &&& 3) <<< 8) ||| ((sdoff &&& 1) <<< 7) ||| ((vsense &&& 1) <<< 6) ||| ((rdsel &&& 3) <<< 4)) ∧
      exec (.setDrvconf tst slph slpl diss2g ts2g sdoff vsense rdsel) s =
        .next { s.afterExchange r.2.2 rest (wordEvents w) with
          reg := { s.reg with drvconf := w }
          valid := { s.valid with drvconf := true }
          result := .code .ok }

/-- R147: "A cache is written after EXCHANGE has returned and never before." For each setter with valid arguments, in any
state and whatever the link does: its first segment, and each segment it goes on with from where it was held, either leaves
it held with the commit still to come and every cache as it was, or ends it with CS_LINE deasserted, its own cache written
and no other. The same of the setters inside DRIVER_INIT, alone and in INITIALIZE_TICK: each commit of the operation
follows its own exchange, and after each segment just the commits of the lines done have been made; while it is held the
enable line and the state are as they were (R160, R192). The same of STATUS_READ, alone and in TESTDELAY_TICK on tick 1: its
one commit, of the word it sends, follows its first exchange and precedes the second (R150), and while it is held the exit
test has not been made, so that STATE is still TestDelay there (R197, R198). -/
def Obligations.CacheWrittenOnlyAfterExchange : Prop :=
  (∀ (l : Layout) (args : List Word32) (s : State), argsValid l args = true →
    let w := s.cfg.regMap.word l args
    let lines := setterBody s.cfg.regMap l args ++ [.returnCode .ok]
    SetterSegment (layoutReg l) w lines s.tasks s (s.setter l args) ∧
    ∀ rest rx below, rest <:+ lines → [.commit (layoutReg l) w, .returnCode .ok] <:+ rest →
      (s.csLine = false ∨ .chipSelect false ∈ rest) → s.tasks = ⟨rest, rx⟩ :: below →
      SetterSegment (layoutReg l) w rest below s s.resume) ∧
  (∀ (c : Config),
    (∀ before r w after, driverInitPlan c = before ++ .commit r w :: after → sendWordPlan w <:+ before) ∧
    ∀ s : State, s.cfg = c →
      (∃ t, exec .driverInit s = .next t ∧ LinesInOrder (driverInitPlan c) s.tasks s t) ∧
      (∃ t, exec .initializeTick s = .next t ∧ LinesInOrder (driverInitPlan c ++ [.enter .home]) s.tasks s t) ∧
      ∀ rest rx below, rest <:+ driverInitPlan c ∨ rest <:+ driverInitPlan c ++ [.enter .home] →
        s.tasks = ⟨rest, rx⟩ :: below → LinesInOrder rest below s s.resume) ∧
  ∀ (kind : StatusKind) (s : State),
    let plan (k : StatusKind) := statusReadPlan k (s.statusWord k)
    (Micro.commit .drvconf (s.statusWord kind) ∈ plan kind ∧
      ∀ before r w after, plan kind = before ++ .commit r w :: after →
        r = .drvconf ∧ w = s.statusWord kind ∧ before = sendWordPlan w ∧ sendWordPlan w <+: after) ∧
    (∃ t, exec (.statusRead kind) s = .next t ∧ LinesInOrder (plan kind ++ [.returnStatus kind]) s.tasks s t) ∧
    (s.ticks = 1 →
      ∃ t, exec .testdelayTick s = .next t ∧
        LinesInOrder (plan s.cfg.testDelayStatusKind ++ [.testDelayExit]) s.tasks s t) ∧
    ∀ w rest rx below,
      rest <:+ statusReadPlan kind w ++ [.returnStatus kind] ∨ rest <:+ statusReadPlan kind w ++ [.testDelayExit] →
      s.tasks = ⟨rest, rx⟩ :: below → LinesInOrder rest below s s.resume

/-- R91: under every well-formed REGMAP (R90), each field of the word is its argument masked to the field's width (the
source's round-trip property), and the word has its base template and no bit outside the fields (R97). The default map is
well formed, and so is the default RESPMAP. -/
def Obligations.FieldsRoundTripAfterMasking : Prop :=
  (∀ (m : RegMap) (l : Layout) (args : List Word32), m.wf = true → args.length = (m.fields l).length →
    (∀ f a, (f, a) ∈ (m.fields l).zip args → f.extract (m.word l args) = a &&& f.mask) ∧
      m.holdsWord l (m.word l args) = true) ∧
    RegMap.default.wf = true ∧ RespMap.default.wf = true

/-- STATUS_READ (R150) on a prompt link: base REG[4] or 0xEF000, the RDSEL field of REGMAP replaced, the word sent twice, the cache written,
the second response decoded and returned, one TELEMETRY event. -/
def Obligations.StatusReadCompletes : Prop :=
  ∀ (kind : StatusKind) (a r : Byte × Byte × Byte) (rest : List Move) (s : State), s.linkReady →
    s.script = answerMoves a ++ answerMoves r ++ rest →
    ∃ w base : Word20, base = (if s.valid.drvconf then s.reg.drvconf else 0xEF000) ∧
      w = s.cfg.regMap.withRdsel base kind ∧
      (s.cfg.regMap = .default → w = (base &&& ~~~(0x30 : Word20)) |||
        (match kind with | .position => 0x00 | .stallGuardLevel => 0x10 | .stallGuardAndCurrent => 0x20)) ∧
      exec (.statusRead kind) s =
        .next { s.afterStatusRead kind w r rest with
          result := .status (demuxResponse s.cfg.respMap kind (unpackBytes r.1 r.2.1 r.2.2)) }

/-- DEMUX (R151): the lanes that RESPMAP gives the kind, "fields not relevant to the requested kind are reported as zero";
the five-bit lane is zero-extended. That a lane wider than the record's field is cut to it is the model's choice (log 6): no
rule states it. The second part says the lanes of the default RESPMAP (R92 to R95), which are presumed (log 6). -/
def Obligations.DemuxReportsRequestedKind : Prop :=
  ∀ (kind : StatusKind) (resp : Word20) (s : State), ∃ d : StatusRecord,
    exec (.demux kind resp) s = .next { s with result := .status d } ∧ d.kind = kind ∧
    (d.status = (s.cfg.respMap.status.extract resp).setWidth 8 ∧
      d.position = (if kind = .position then (s.cfg.respMap.mstep.extract resp).setWidth 10 else 0) ∧
      d.sg = (match kind with
        | .position => 0
        | .stallGuardLevel => (s.cfg.respMap.sg.extract resp).setWidth 10
        | .stallGuardAndCurrent => (s.cfg.respMap.sgh.extract resp).setWidth 10) ∧
      d.cs = (if kind = .stallGuardAndCurrent then (s.cfg.respMap.se.extract resp).setWidth 5 else 0)) ∧
    (s.cfg.respMap = .default →
      d.status = resp.extractLsb' 0 8 ∧
      d.position = (if kind = .position then resp.extractLsb' 10 10 else 0) ∧
      d.sg = (match kind with
        | .position => 0
        | .stallGuardLevel => resp.extractLsb' 10 10
        | .stallGuardAndCurrent => (resp.extractLsb' 15 5).setWidth 10) ∧
      d.cs = (if kind = .stallGuardAndCurrent then resp.extractLsb' 10 5 else 0))

/-- DRIVER_INIT (R160) on a prompt link: with valid INTPOL and DEDGE five exchanges in register order, five caches and the
enable line; otherwise SET_DRVCTRL_SD does nothing and the other four run. -/
def Obligations.DriverInitConfiguresAndEnables : Prop :=
  ∀ (a b c d e : Byte × Byte × Byte) (rest : List Move) (s : State), s.linkReady →
    (isBit s.cfg.init.intpol = true ∧ isBit s.cfg.init.dedge = true →
      s.script = answerMoves a ++ answerMoves b ++ answerMoves c ++ answerMoves d ++ answerMoves e ++ rest →
      exec .driverInit s = .next (s.afterDriverInit e.2.2 rest)) ∧
    (¬(isBit s.cfg.init.intpol = true ∧ isBit s.cfg.init.dedge = true) →
      s.script = answerMoves b ++ answerMoves c ++ answerMoves d ++ answerMoves e ++ rest →
      exec .driverInit s = .next (s.afterDriverInitInvalid e.2.2 rest))

/-! ## Motion Primitives (spec 43) -/

/-- SET_DIRECTION (R171): the direction, and the line unless the direction is Stopped. -/
def Obligations.SetDirectionDrivesLine : Prop :=
  ∀ s : State,
    exec (.setDirection .clockwise) s = .next { s with direction := .clockwise, dirLine := s.cfg.dirLevelCw } ∧
    exec (.setDirection .counterClockwise) s =
      .next { s with direction := .counterClockwise, dirLine := !s.cfg.dirLevelCw } ∧
    exec (.setDirection .stopped) s = .next { s with direction := .stopped }

/-- STEP_PULSE (R173): the line toggles; STEPS moves by +1, -1 or 0 and wraps in two's complement of POS_WIDTH bits (R24,
32 by default); while Stopped a count that fits does not change (R174). -/
def Obligations.StepPulseCountsSigned : Prop :=
  ∀ s : State, ∃ n : Int,
    -(2 ^ s.cfg.posWidth : Int) ≤ 2 * n ∧ 2 * n < 2 ^ s.cfg.posWidth ∧
    (2 ^ s.cfg.posWidth : Int) ∣ n - (s.steps +
      match s.direction with | .clockwise => 1 | .counterClockwise => -1 | .stopped => 0) ∧
    (s.StepsFit → s.direction = .stopped → n = s.steps) ∧
    exec .stepPulse s = .next { s with stepLine := !s.stepLine, steps := n }

/-- R178: whatever the order of N Clockwise and M CounterClockwise pulses, STEPS changes by N - M, modulo 2^POS_WIDTH; with
no wrap it changes by N - M and the angle by `angleOf (N - M)`. -/
def Obligations.PulseOrderDoesNotMatter : Prop :=
  ∀ (ds : List Turn) (s : State),
    let moved : Int := ds.count .clockwise - ds.count .counterClockwise
    (2 ^ s.cfg.posWidth : Int) ∣ (s.pulses ds).steps - (s.steps + moved) ∧
      (s.cfg.holdsSteps (s.steps + moved) →
        (s.pulses ds).steps = s.steps + moved ∧
          angleOf s.cfg (s.pulses ds).steps = angleOf s.cfg s.steps + angleOf s.cfg moved)

/-- R176: angleOf is linear in the step count, zero at zero and strictly increasing. -/
def Obligations.AngleIsLinearAndIncreasing : Prop :=
  ∀ c : Config, c.wf = true →
    angleOf c 0 = 0 ∧ (∀ m n : Int, angleOf c (m + n) = angleOf c m + angleOf c n) ∧
      ∀ m n : Int, m < n → angleOf c m < angleOf c n

/-- R177: with the thresholds R177 gives, the integer comparisons are the strict comparisons of the exact angle on every
count; every other angleOf that is non-decreasing has thresholds too, for any bounds; and the limiter's test is then the
strict comparison of that angle. -/
def Obligations.LimiterThresholdsMatchAngle : Prop :=
  (∀ (c : Config) (upper lower : ℝ), c.wf = true → c.ExactThresholds upper lower →
    ∀ n : Int, (c.upperSteps < n ↔ upper < angleOf c n) ∧ (n < c.lowerSteps ↔ angleOf c n < lower)) ∧
  (∀ (c : Config) (angle : Int → ℝ) (upper lower : ℝ), Monotone angle →
    ∃ u l : Int, ({ c with upperSteps := u, lowerSteps := l } : Config).LimitsFor angle upper lower) ∧
  ∀ (angle : Int → ℝ) (upper lower : ℝ) (s : State), s.StepsFit → s.cfg.LimitsFor angle upper lower →
    (s.outOfBounds = true ↔ upper < angle s.steps ∨ angle s.steps < lower)

/-- The four output pins follow their registers (R45): CSN_PIN and EN_PIN are at their active level just where the line is
asserted, DIR_PIN and STEP_PIN are the registers. With the defaults of R10 both active levels are low. -/
def Obligations.OutputPinsFollowRegisters : Prop :=
  ∀ s : State,
    (s.csLine = true → s.csnPin = s.cfg.csActiveLevel) ∧ (s.csLine = false → s.csnPin = !s.cfg.csActiveLevel) ∧
    (s.enLine = true → s.enPin = s.cfg.enActiveLevel) ∧ (s.enLine = false → s.enPin = !s.cfg.enActiveLevel) ∧
    s.dirPin = s.dirLine ∧ s.stepPin = s.stepLine ∧
    (s.cfg = s.cfg.withDefaults → s.csnPin = !s.csLine ∧ s.enPin = !s.enLine)

/-! ## Tilt State Machine (spec 44) -/

/-- ENTER (R187): the state, the tick counter zeroed, no sweep alive; nothing else. -/
def Obligations.EnterZeroesTicks : Prop :=
  ∀ (target : TiltState) (s : State),
    exec (.enter target) s = .next { s with tilt := target, ticks := 0, profileActive := false }

/-- Error (R191): a tick counts nothing, tests nothing and enters nothing; a step expiry does nothing; a home edge
reconciles STEPS and makes no transition. Each handler clears the latch of its own event. That an offset which POS_WIDTH bits
do not hold is reduced to them is the model's choice (log 19): no rule states it. -/
def Obligations.ErrorIsAbsorbing : Prop :=
  ∀ s : State, s.tilt = .error →
    exec .tick s = .next { s with pend := { s.pend with tick := false } } ∧
    exec .stepExpiry s = .next { s with pend := { s.pend with step := false } } ∧
    exec .homeEdge s =
      .next { s with
        pend := { s.pend with home := false }
        steps := match s.cfg.reconcile.lookup s.direction (s.homeIn == s.cfg.homeCoveredLevel) with
          | none => s.steps
          | some n => s.cfg.wrapSteps n }

/-- The safety limiter (R190): in TestDelay, TiltTable and the test states an angle strictly beyond a bound forces Home,
and the tick does nothing else; an angle within the bounds, a bound itself included, does not, and in Initialize and Home
the limiter is not asked: the tick is counted and the state's routine runs. The angle is any function and bounds that the
thresholds stand for, the exact one among them (LimiterThresholdsMatchAngle). -/
def Obligations.LimiterForcesHome : Prop :=
  ∀ (angleAt : Int → ℝ) (upper lower : ℝ) (s : State), s.StepsFit → s.cfg.LimitsFor angleAt upper lower →
    let angle := angleAt s.steps
    ((s.tilt = .testDelay ∨ s.tilt = .tiltTable ∨ s.tilt = .testClockwise ∨ s.tilt = .testCounterClockwise) →
      upper < angle ∨ angle < lower →
      exec .tick s =
        .next { s with pend := { s.pend with tick := false }, tilt := .home, ticks := 0, profileActive := false }) ∧
    (∀ i, routineOf s.tilt = some i →
      (s.tilt = .initial ∨ s.tilt = .home ∨ (lower ≤ angle ∧ angle ≤ upper)) →
      exec .tick s = exec i { s with pend := { s.pend with tick := false }, ticks := s.countTick.ticks })

/-- TICK otherwise (R188, R189): the tick is counted, saturating at 2^32 - 1, and then the state's own routine runs; the
limiter is not asked in Initialize and Home, and does not trip on a bound itself. -/
def Obligations.TickCountsThenDispatches : Prop :=
  ∀ (i : Instr) (s : State), routineOf s.tilt = some i →
    (s.tilt = .initial ∨ s.tilt = .home ∨ (s.cfg.lowerSteps ≤ s.steps ∧ s.steps ≤ s.cfg.upperSteps)) →
    ∃ (n : Word32) (t : State), n.toNat = min (s.ticks.toNat + 1) (2 ^ 32 - 1) ∧
      exec i { s with pend := { s.pend with tick := false }, ticks := n } = .next t ∧ exec .tick s = .next t

/-- INITIALIZE_TICK (R192) on a prompt link: DRIVER_INIT, then Home, whatever the setters' result codes are. -/
def Obligations.InitializeTickGoesHome : Prop :=
  ∀ (a b c d e : Byte × Byte × Byte) (rest : List Move) (s : State), s.linkReady →
    (isBit s.cfg.init.intpol = true ∧ isBit s.cfg.init.dedge = true →
      s.script = answerMoves a ++ answerMoves b ++ answerMoves c ++ answerMoves d ++ answerMoves e ++ rest →
      exec .initializeTick s = .next ((s.afterDriverInit e.2.2 rest).entered .home)) ∧
    (¬(isBit s.cfg.init.intpol = true ∧ isBit s.cfg.init.dedge = true) →
      s.script = answerMoves b ++ answerMoves c ++ answerMoves d ++ answerMoves e ++ rest →
      exec .initializeTick s = .next ((s.afterDriverInitInvalid e.2.2 rest).entered .home))

/-- HOME_TICK (R194, R196): on tick 1 the homing period, the timer running, and the direction that HOME_DIR gives for the
flag's level and for "is the count zero"; on a later tick nothing. The default HOME_DIR gives Clockwise where the flag is
covered, else CounterClockwise, whatever the count. -/
def Obligations.HomeTickStartsHoming : Prop :=
  ∀ s : State,
    let d := s.cfg.homeDir.lookup (s.homeIn == s.cfg.homeCoveredLevel) (s.steps == 0)
    (s.ticks = 1 →
      exec .homeTick s =
        .next { s with
          tmrPeriod := s.cfg.homingPeriod
          tmrRun := true
          direction := match d with | .clockwise => .clockwise | .counterClockwise => .counterClockwise
          dirLine := match d with | .clockwise => s.cfg.dirLevelCw | .counterClockwise => !s.cfg.dirLevelCw }) ∧
    (s.ticks ≠ 1 → exec .homeTick s = .next s) ∧
    (s.cfg.homeDir = HomeDirTable.default →
      d = if s.homeIn = s.cfg.homeCoveredLevel then .clockwise else .counterClockwise)

/-- TESTDELAY_TICK (R197, R198) on a prompt link: on tick 1 one status read; then TiltTable where the count has reached
TESTDELAY_TICKS. -/
def Obligations.TestDelayReadsOnceThenLeaves : Prop :=
  ∀ s : State,
    (s.ticks ≠ 1 →
      exec .testdelayTick s =
        .next (if s.cfg.testDelayTicks ≤ s.ticks.toNat then s.entered .tiltTable else s)) ∧
    (s.ticks = 1 → ∀ (a r : Byte × Byte × Byte) (rest : List Move), s.linkReady →
      s.script = answerMoves a ++ answerMoves r ++ rest →
      exec .testdelayTick s =
        .next (let t := s.afterStatusRead s.cfg.testDelayStatusKind (s.statusWord s.cfg.testDelayStatusKind) r rest
          if s.cfg.testDelayTicks ≤ 1 then t.entered .tiltTable else t))

/-- TILTTABLE_TICK (R203, R204, R205): tick 1 turns to SWEEP_DIR, flips it, zeroes the index, and starts the sweep if the
first entry is there and positive; a later tick re-enters TiltTable where no sweep is active and does nothing where one
is. -/
def Obligations.TiltTableTickStartsSweeps : Prop :=
  ∀ s : State,
    let turned : State := { s with
      direction := match s.sweepDir with | .clockwise => .clockwise | .counterClockwise => .counterClockwise
      dirLine := match s.sweepDir with | .clockwise => s.cfg.dirLevelCw | .counterClockwise => !s.cfg.dirLevelCw
      sweepDir := match s.sweepDir with | .clockwise => .counterClockwise | .counterClockwise => .clockwise
      profileIdx := 0 }
    (∀ p, s.ticks = 1 → s.cfg.profile.head? = some p → 0 < p.toInt →
      exec .tilttableTick s = .next { turned with tmrPeriod := p, tmrRun := true, profileActive := true }) ∧
    (s.ticks = 1 → (∀ p, s.cfg.profile.head? = some p → p.toInt ≤ 0) → exec .tilttableTick s = .next turned) ∧
    (s.ticks ≠ 1 → s.profileActive = true → exec .tilttableTick s = .next s) ∧
    (s.ticks ≠ 1 → s.profileActive = false →
      exec .tilttableTick s = .next { s with tilt := .tiltTable, ticks := 0 })

/-- TEST_TICK_CW (R206): tick 1 enables the driver, programs the default rate and turns Clockwise; where the count has
reached the budget the driver is disabled and TestCounterClockwise entered, in that order. TEST_TICK_CCW (R207): the same
with the two roles exchanged. -/
def Obligations.TestTicksRunAndSwitch : Prop :=
  ∀ s : State,
    let started (d : Direction) (level : Bool) : State := if s.ticks = 1 then
        { s with
          enLine := true, tmrPeriod := s.cfg.defaultPeriod, tmrRun := true
          direction := d, dirLine := level }
      else s
    (s.ticks.toNat < s.cfg.testTickBudget →
      exec .testTickCw s = .next (started .clockwise s.cfg.dirLevelCw) ∧
      exec .testTickCcw s = .next (started .counterClockwise !s.cfg.dirLevelCw)) ∧
    (s.cfg.testTickBudget ≤ s.ticks.toNat →
      exec .testTickCw s =
        .next { started .clockwise s.cfg.dirLevelCw with
          enLine := false, tilt := .testCounterClockwise, ticks := 0, profileActive := false } ∧
      exec .testTickCcw s =
        .next { started .counterClockwise !s.cfg.dirLevelCw with
          enLine := false, tilt := .testClockwise, ticks := 0, profileActive := false })

/-! ## Step Pulse Source (spec 45) -/

/-- STEP_EXPIRY outside TiltTable (R222, R223): in Home and the test states one step, unconditionally; in Initialize,
TestDelay and Error nothing but the latch that entry clears. -/
def Obligations.StepExpiryByState : Prop :=
  ∀ s : State,
    let entered : State := { s with pend := { s.pend with step := false } }
    (s.tilt = .home ∨ s.tilt = .testClockwise ∨ s.tilt = .testCounterClockwise →
      exec .stepExpiry s =
        .next { entered with
          stepLine := !s.stepLine
          steps := match s.direction with
            | .clockwise => s.cfg.wrapSteps (s.steps + 1)
            | .counterClockwise => s.cfg.wrapSteps (s.steps - 1)
            | .stopped => s.cfg.wrapSteps s.steps }) ∧
    (s.tilt = .initial ∨ s.tilt = .testDelay ∨ s.tilt = .error → exec .stepExpiry s = .next entered)

/-- STEP_EXPIRY in TiltTable (R224): in an active sweep advance the index, step, then take the next period, or clear
PROFILE_ACTIVE where the index has reached the end or a non-positive entry; outside an active sweep nothing. -/
def Obligations.StepExpiryAdvancesSweep : Prop :=
  ∀ s : State, s.tilt = .tiltTable →
    let entered : State := { s with pend := { s.pend with step := false } }
    let stepped : State := { entered with
      profileIdx := s.profileIdx + 1
      stepLine := !s.stepLine
      steps := match s.direction with
        | .clockwise => s.cfg.wrapSteps (s.steps + 1)
        | .counterClockwise => s.cfg.wrapSteps (s.steps - 1)
        | .stopped => s.cfg.wrapSteps s.steps }
    (s.profileActive = false → exec .stepExpiry s = .next entered) ∧
    (s.profileActive = true → ∀ p, s.cfg.profile[(s.profileIdx + 1).toNat]? = some p → 0 < p.toInt →
      exec .stepExpiry s = .next { stepped with tmrPeriod := p }) ∧
    (s.profileActive = true →
      (s.cfg.profile.length ≤ (s.profileIdx + 1).toNat ∨
        ∃ p, s.cfg.profile[(s.profileIdx + 1).toNat]? = some p ∧ p.toInt ≤ 0) →
      exec .stepExpiry s = .next { stepped with profileActive := false })

/-- R225: a sweep that is not cut short issues exactly L steps, L being the number of leading positive entries: after n
expiries the count has moved by min(n, L) steps, the sweep is active just while n < L, and the period is the entry of
the step to come. -/
def Obligations.SweepIssuesLeadingPositiveSteps : Prop :=
  ∀ (n : Nat) (s : State), s.cfg.profile.length < 2 ^ 32 → s.tilt = .tiltTable → s.profileActive = true →
    s.profileIdx = 0 → 0 < leadingPositive s.cfg.profile → s.cfg.profile[0]? = some s.tmrPeriod → s.StepsFit →
    let l := leadingPositive s.cfg.profile
    (s.expiries n).steps = s.cfg.wrapSteps (s.steps + min n l * s.direction.sign) ∧
      (s.expiries n).profileActive = decide (n < l) ∧
      (s.expiries n).profileIdx.toNat = min n l ∧
      s.cfg.profile[min n (l - 1)]? = some (s.expiries n).tmrPeriod

/-! ## Home Sensor Edge Source and the stall stub (spec 46) -/

/-- HOME_EDGE (R236, R237, R239) for any table RECONCILE: none changes nothing; an offset is assigned to STEPS, within its
width, in every state, and Home becomes TestDelay just where the offset is 0. The last clause, that an offset which POS_WIDTH
bits do not hold is reduced to them, is the model's choice (log 19): no rule states it. With DIRECTION = Stopped there is no
reconciliation, whatever the table (R242, R282; 92 D26). -/
def Obligations.HomeEdgeReconciles : Prop :=
  ∀ s : State,
    let entered : State := { s with pend := { s.pend with home := false } }
    let r := s.cfg.reconcile.lookup s.direction (s.homeIn == s.cfg.homeCoveredLevel)
    (r = none → exec .homeEdge s = .next entered) ∧
    (s.direction = .stopped → exec .homeEdge s = .next entered) ∧
    (∀ n, r = some n → s.cfg.holdsSteps n → s.tilt = .home → n = 0 →
      exec .homeEdge s =
        .next { entered with steps := 0, tilt := .testDelay, ticks := 0, profileActive := false }) ∧
    (∀ n, r = some n → s.cfg.holdsSteps n → ¬(s.tilt = .home ∧ n = 0) →
      exec .homeEdge s = .next { entered with steps := n }) ∧
    (∀ n, r = some n → ¬s.cfg.holdsSteps n → exec .homeEdge s = .next { entered with steps := s.cfg.wrapSteps n })

/-- The default geometry (R238): the flag's Clockwise end gives 0, its CounterClockwise end minus the flag's width, and
Stopped gives no reconciliation. -/
def Obligations.DefaultGeometryReanchors : Prop :=
  ∀ s : State, s.cfg.wf = true → s.cfg.reconcile = ReconcileTable.default s.cfg.flagWidthSteps →
    ∃ t, exec .homeEdge s = .next t ∧
      (s.direction = .stopped → t.steps = s.steps ∧ t.tilt = s.tilt) ∧
      (s.direction = .clockwise → s.homeIn ≠ s.cfg.homeCoveredLevel → t.steps = 0) ∧
      (s.direction = .counterClockwise → s.homeIn = s.cfg.homeCoveredLevel → t.steps = 0) ∧
      (s.direction = .clockwise → s.homeIn = s.cfg.homeCoveredLevel →
        t.steps = -s.cfg.flagWidthSteps ∧ t.tilt = s.tilt) ∧
      (s.direction = .counterClockwise → s.homeIn ≠ s.cfg.homeCoveredLevel →
        t.steps = -s.cfg.flagWidthSteps ∧ t.tilt = s.tilt)

/-- R240: a second HOME_EDGE with the same level and direction changes nothing. -/
def Obligations.HomeEdgeIsIdempotent : Prop :=
  ∀ s t : State, exec .homeEdge s = .next t → exec .homeEdge t = .next t

/-- STALL_EDGE (R241): one DEBUG event and nothing else. -/
def Obligations.StallEdgeOnlyEmitsDebug : Prop :=
  ∀ s : State,
    exec .stallEdge s = .next { s with pend := { s.pend with stall := false }, out := s.out ++ [.debug] }

/-! ## Events, the step and reset (spec 60, 70) -/

/-- A step runs the presented row: where a harness presents an operation, or bytes that decode to a row, and reset is
released, the step is that row's meaning on the state with the port emptied. The port is the model's, log 3. -/
def Obligations.StepRunsPresentedRow : Prop :=
  ∀ (s : State) (i : Instr), s.resetHeld = false →
    (s.port = some (.op i) → step s = exec i { s with port := none }) ∧
    (∀ bs, s.port = some (.bytes bs) → decodeAuto bs = .ok i → step s = exec i { s with port := none }) ∧
    (∀ nbits w, decodeTableWord nbits w = some i →
      step (s.withFetchWord nbits w) = exec i { s with port := none, resetHeld := false })

/-- Selection (R259, R261): a block's move serves a pending source of the highest level, the one it names if that is
pending; with none pending it serves TICK if no operation is in progress; else it goes on with the operation. Every order
among equals is admitted by the move's choice (log 13). -/
def Obligations.StepServesByPriority : Prop :=
  ∀ (first : Source) (ms : List Move) (s : State), s.port = none → s.resetHeld = false →
    s.script = .block first :: ms →
    let s' : State := { s with script := ms }
    (first ≠ .tick → s.pend.get first = true → step s = exec (handlerOf first) s') ∧
    (s.pend.high = true → ∃ k, k ≠ .tick ∧ s.pend.get k = true ∧ step s = exec (handlerOf k) s') ∧
    (s.pend.high = false → s.tasks = [] → s.pend.tick = true → step s = exec .tick s') ∧
    (s.pend.high = false → s.tasks = [] → s.pend.tick = false → step s = .next s') ∧
    (s.pend.high = false → s.tasks ≠ [] → step s = .next s'.resume)

/-- Events set latches (R34, R35, R50): a tick sets PEND[0]; an expiry sets PEND[1] only while TMR_RUN = 1; a change of
HOME_IN or SG_IN sets PEND[2] or PEND[3] and is remembered; a level that is no change sets nothing. An asserted reset
(R280) puts every element of R20 at its reset value, TMR_PERIOD's being unspecified, and discards the operation in
progress; the release of a reset that is not asserted is no change (log 15). -/
def Obligations.EventsSetLatches : Prop :=
  ∀ (e : EnvEvent) (ms : List Move) (s : State), s.port = none → s.resetHeld = false → s.script = .event e :: ms →
    ∃ t, step s = .next t ∧
      match e with
      | .tickEv => t = { s with script := ms, pend := { s.pend with tick := true } }
      | .timerExpiry => t = { s with script := ms, pend := { s.pend with step := s.pend.step || s.tmrRun } }
      | .homeLevel b =>
        t = { s with
          script := ms, homeIn := b, homePrev := b, pend := { s.pend with home := s.pend.home || (b != s.homePrev) } }
      | .sgLevel b =>
        t = { s with
          script := ms, sgIn := b, sgPrev := b, pend := { s.pend with stall := s.pend.stall || (b != s.sgPrev) } }
      | .reset true =>
        t.tilt = .initial ∧ t.ticks = 0 ∧ t.direction = .stopped ∧ t.steps = 0 ∧ t.profileIdx = 0 ∧
          t.profileActive = false ∧ t.sweepDir = s.cfg.firstSweepDir ∧ t.tmrRun = false ∧ t.csLine = false ∧
          t.enLine = false ∧ t.dirLine = false ∧ t.stepLine = false ∧ t.pend = ⟨false, false, false, false⟩ ∧
          t.reg = ⟨0, 0, 0, 0, 0⟩ ∧ t.valid = ⟨false, false, false, false, false⟩ ∧ t.tasks = [] ∧ t.cfg = s.cfg ∧
          t.homeIn = s.homeIn ∧ t.sgIn = s.sgIn ∧ t.homePrev = s.homeIn ∧ t.sgPrev = s.sgIn ∧ t.resetHeld = true
      | .reset false => t = { s with script := ms }

/-- R53, R281: what reset leaves, by the spec's values: Initialize, no tick, no event pending, no sweep, the timer
stopped, chip-select and enable deasserted, DIR_LINE and STEP_LINE 0, Stopped, STEPS = 0, caches zero and invalid, the
first sweep's direction that of the configuration. -/
def Obligations.ResetLeavesTheListedValues : Prop :=
  State.reset.reg = ⟨0, 0, 0, 0, 0⟩ ∧ State.reset.valid = ⟨false, false, false, false, false⟩ ∧
    State.reset.direction = .stopped ∧ State.reset.steps = 0 ∧ State.reset.tilt = .initial ∧ State.reset.ticks = 0 ∧
    State.reset.profileIdx = 0 ∧ State.reset.profileActive = false ∧
    State.reset.sweepDir = State.reset.cfg.firstSweepDir ∧ State.reset.tmrRun = false ∧ State.reset.csLine = false ∧
    State.reset.enLine = false ∧ State.reset.dirLine = false ∧ State.reset.stepLine = false ∧
    State.reset.pend = ⟨false, false, false, false⟩ ∧ State.reset.homePrev = State.reset.homeIn ∧
    State.reset.sgPrev = State.reset.sgIn ∧ State.reset.tasks = []

/-- While reset is asserted (R35, R280; log 15): a tick is a fault (93 U18); the block does nothing; with TMR_RUN = 0, its
reset value, an expiry sets no latch; a level of HOME_IN or SG_IN is followed by its edge detector and raises nothing; a
release starts the edge detectors at the inputs' levels and changes nothing else. -/
def Obligations.ResetHeldTakesNoEvents : Prop :=
  ∀ (ms : List Move) (s : State), s.resetHeld = true →
    (s.script = .event .tickEv :: ms → step s = .fault .eventInReset) ∧
    (∀ first, s.script = .block first :: ms → step s = .next { s with script := ms }) ∧
    (s.script = .event .timerExpiry :: ms → s.tmrRun = false → step s = .next { s with script := ms }) ∧
    (∀ b, s.script = .event (.homeLevel b) :: ms → step s = .next { s with script := ms, homeIn := b, homePrev := b }) ∧
    (∀ b, s.script = .event (.sgLevel b) :: ms → step s = .next { s with script := ms, sgIn := b, sgPrev := b }) ∧
    (s.script = .event (.reset false) :: ms →
      step s = .next { s with script := ms, resetHeld := false, homePrev := s.homeIn, sgPrev := s.sgIn })

/-! ## Encodings -/

/-- Words written out from R81 to R95 decode to the rows they stand for. -/
def Obligations.SampleWordsDecode : Prop :=
  decode (.driverWord false) [0x00, 0x01, 0x04] = .ok (.drvctrlSd 0 1 4) ∧
    decode (.driverWord true) [0x03, 0x4A, 0x3C] = .ok (.drvctrlSpi 1 0xA5 0 0x3C) ∧
    decode (.driverWord false) [0x09, 0x01, 0xB4] = .ok (.chopconf 2 0 0 0 3 3 4) ∧
    decode (.driverWord false) [0x0E, 0xF0, 0x40] = .ok (.drvconf 0 3 3 0 0 0 1 0) ∧
    decode .rxFrame [0x12, 0x34, 0x56] = .ok (.rxframe 0x12345 6) ∧
    decode (.response .stallGuardLevel) [0x2A, 0x4C, 0x10] = .ok (.respSg 169 0 0xC1)

/-- Decode and encode agree under every mode (R96): for every row that bits read under the mode can present, decoding
what encode writes gives the row back, with every field. -/
def Obligations.DecodeInvertsEncodeInMode : Prop :=
  ∀ (f : Format) (i : Instr), i.wellFormedIn f = true → ∃ bs, encode i = some bs ∧ decode f bs = .ok i

/-- Decode and encode agree without a mode, for every well-formed row that has bits. The order of the readings is the
model's choice, log 7. -/
def Obligations.DecodeInvertsEncodeUntagged : Prop :=
  ∀ (i : Instr) (bs : List Byte), i.wellFormed = true → encode i = some bs → decodeAuto bs = .ok i

/-- Every transmitted or received frame has one meaning: what a frame is read as, outside the responses, encodes to that
very frame, so no bit of a frame is dropped and no reserved bit is let through. That a word with one is refused is the
model's choice (log 23). -/
def Obligations.EncodeInvertsDecode : Prop :=
  ∀ (f : Format) (bs : List Byte) (i : Instr), (∀ k, f ≠ .response k) → decode f bs = .ok i →
    encode i = some bs ∧ i.wellFormedIn f = true

/-! ## Invariants that every step keeps -/

/-- R37: no step changes the configuration. -/
def Obligations.ConfigurationNeverChanges : Prop :=
  ∀ s t : State, step s = .next t → t.cfg = s.cfg

/-- R97, R21: every cache that was ever written holds a word of its own register with no reserved bit set, whatever a
harness calls and whatever the link does, under every well-formed REGMAP for which 0xEF000 is a DRVCONF word. The default
map is such a map, and its words are those of the opcode table's patterns (R84 to R89). -/
def Obligations.CachesStayFormed : Prop :=
  (∀ s t : State, s.cfg.mapFits = true → s.CachesFormed → step s = .next t → t.CachesFormed) ∧
    (∀ c : Config, c.regMap = .default → c.mapFits = true) ∧
    ∀ r w, wordOf .default r w = (patternOf r).fits w

/-- R42 (c): with the block run by its events alone, an active sweep is in TiltTable, its index in the table, the entry
there positive; and a tick has been counted since TiltTable was entered, since ENTER clears TICKS and the sweep at once
(R187). -/
def Obligations.SweepStaysSound : Prop :=
  ∀ s t : State, s.harnessFree → s.SweepSound → step s = .next t → t.harnessFree ∧ t.SweepSound

/-- R42 (d), R67, R123: with the block run by its events alone, chip-select is asserted only inside an exchange, and every
frame on the wire that no reset cuts has exactly three bytes. -/
def Obligations.FramingIsKept : Prop :=
  ∀ s t : State, s.harnessFree → s.WellFramed → step s = .next t → t.harnessFree ∧ t.WellFramed

/-- R171, R174, R31: with the block run by its events alone, a running step timer has a direction that is not Stopped and
a period in 1..2^31-1. -/
def Obligations.RunningTimerIsDirected : Prop :=
  ∀ s t : State, s.harnessFree → s.cfg.wf = true → s.TurnsWhenTimed → s.PeriodInRange →
    step s = .next t → t.TurnsWhenTimed ∧ t.PeriodInRange

/-- R24: STEPS stays a number of POS_WIDTH bits, whatever a harness calls. -/
def Obligations.StepCountStaysInWidth : Prop :=
  ∀ s t : State, s.StepsFit → step s = .next t → t.StepsFit

/-- R208: the documented transitions stay within Initialize, Home, TestDelay and TiltTable. -/
def Obligations.OnlyDocumentedStatesAreReached : Prop :=
  ∀ s t : State, s.harnessFree → s.Documented → step s = .next t → t.harnessFree ∧ t.Documented

/-- R209: with the block run by its events alone, a step moves STATE along the transition table or not at all; only an
asserted reset takes it to Initialize. -/
def Obligations.TransitionsFollowTheTable : Prop :=
  ∀ s t : State, s.harnessFree → s.EntersFit → step s = .next t →
    (transition s.tilt t.tilt = true ∨ (t.tilt = .initial ∧ t.resetHeld = true)) ∧ t.EntersFit

/-- The machine right after reset meets every invariant above. -/
def Obligations.ResetMeetsTheInvariants : Prop :=
  State.reset.harnessFree ∧ State.reset.CachesFormed ∧ State.reset.SweepSound ∧ State.reset.WellFramed ∧
    State.reset.TurnsWhenTimed ∧ State.reset.PeriodInRange ∧ State.reset.StepsFit ∧ State.reset.Documented ∧ State.reset.EntersFit
end

