-- ==== Sys2Proof/Laws/State.lean ====
section
/-! SUPPORT. One lemma per field per update of the state, so that no later proof unfolds a record update. -/

namespace Sys2Proof.Machine

variable (s : State)

@[simp] theorem State.answer_cfg (v : Result) : (s.answer v).cfg = s.cfg := rfl
@[simp] theorem State.answer_reg (v : Result) : (s.answer v).reg = s.reg := rfl
@[simp] theorem State.answer_valid (v : Result) : (s.answer v).valid = s.valid := rfl
@[simp] theorem State.answer_direction (v : Result) : (s.answer v).direction = s.direction := rfl
@[simp] theorem State.answer_steps (v : Result) : (s.answer v).steps = s.steps := rfl
@[simp] theorem State.answer_tilt (v : Result) : (s.answer v).tilt = s.tilt := rfl
@[simp] theorem State.answer_ticks (v : Result) : (s.answer v).ticks = s.ticks := rfl
@[simp] theorem State.answer_profileIdx (v : Result) : (s.answer v).profileIdx = s.profileIdx := rfl
@[simp] theorem State.answer_profileActive (v : Result) : (s.answer v).profileActive = s.profileActive := rfl
@[simp] theorem State.answer_sweepDir (v : Result) : (s.answer v).sweepDir = s.sweepDir := rfl
@[simp] theorem State.answer_tmrPeriod (v : Result) : (s.answer v).tmrPeriod = s.tmrPeriod := rfl
@[simp] theorem State.answer_tmrRun (v : Result) : (s.answer v).tmrRun = s.tmrRun := rfl
@[simp] theorem State.answer_csLine (v : Result) : (s.answer v).csLine = s.csLine := rfl
@[simp] theorem State.answer_enLine (v : Result) : (s.answer v).enLine = s.enLine := rfl
@[simp] theorem State.answer_dirLine (v : Result) : (s.answer v).dirLine = s.dirLine := rfl
@[simp] theorem State.answer_stepLine (v : Result) : (s.answer v).stepLine = s.stepLine := rfl
@[simp] theorem State.answer_pend (v : Result) : (s.answer v).pend = s.pend := rfl
@[simp] theorem State.answer_homePrev (v : Result) : (s.answer v).homePrev = s.homePrev := rfl
@[simp] theorem State.answer_sgPrev (v : Result) : (s.answer v).sgPrev = s.sgPrev := rfl
@[simp] theorem State.answer_homeIn (v : Result) : (s.answer v).homeIn = s.homeIn := rfl
@[simp] theorem State.answer_sgIn (v : Result) : (s.answer v).sgIn = s.sgIn := rfl
@[simp] theorem State.answer_link (v : Result) : (s.answer v).link = s.link := rfl
@[simp] theorem State.answer_resetHeld (v : Result) : (s.answer v).resetHeld = s.resetHeld := rfl
@[simp] theorem State.answer_tasks (v : Result) : (s.answer v).tasks = s.tasks := rfl
@[simp] theorem State.answer_port (v : Result) : (s.answer v).port = s.port := rfl
@[simp] theorem State.answer_result (v : Result) : (s.answer v).result = v := rfl
@[simp] theorem State.answer_out (v : Result) : (s.answer v).out = s.out := rfl
@[simp] theorem State.answer_script (v : Result) : (s.answer v).script = s.script := rfl
@[simp] theorem State.answer_moveCount (v : Result) : (s.answer v).moveCount = s.moveCount := rfl

@[simp] theorem State.raiseInvalid_cfg : (s.raiseInvalid).cfg = s.cfg := rfl
@[simp] theorem State.raiseInvalid_reg : (s.raiseInvalid).reg = s.reg := rfl
@[simp] theorem State.raiseInvalid_valid : (s.raiseInvalid).valid = s.valid := rfl
@[simp] theorem State.raiseInvalid_direction : (s.raiseInvalid).direction = s.direction := rfl
@[simp] theorem State.raiseInvalid_steps : (s.raiseInvalid).steps = s.steps := rfl
@[simp] theorem State.raiseInvalid_tilt : (s.raiseInvalid).tilt = s.tilt := rfl
@[simp] theorem State.raiseInvalid_ticks : (s.raiseInvalid).ticks = s.ticks := rfl
@[simp] theorem State.raiseInvalid_profileIdx : (s.raiseInvalid).profileIdx = s.profileIdx := rfl
@[simp] theorem State.raiseInvalid_profileActive : (s.raiseInvalid).profileActive = s.profileActive := rfl
@[simp] theorem State.raiseInvalid_sweepDir : (s.raiseInvalid).sweepDir = s.sweepDir := rfl
@[simp] theorem State.raiseInvalid_tmrPeriod : (s.raiseInvalid).tmrPeriod = s.tmrPeriod := rfl
@[simp] theorem State.raiseInvalid_tmrRun : (s.raiseInvalid).tmrRun = s.tmrRun := rfl
@[simp] theorem State.raiseInvalid_csLine : (s.raiseInvalid).csLine = s.csLine := rfl
@[simp] theorem State.raiseInvalid_enLine : (s.raiseInvalid).enLine = s.enLine := rfl
@[simp] theorem State.raiseInvalid_dirLine : (s.raiseInvalid).dirLine = s.dirLine := rfl
@[simp] theorem State.raiseInvalid_stepLine : (s.raiseInvalid).stepLine = s.stepLine := rfl
@[simp] theorem State.raiseInvalid_pend : (s.raiseInvalid).pend = s.pend := rfl
@[simp] theorem State.raiseInvalid_homePrev : (s.raiseInvalid).homePrev = s.homePrev := rfl
@[simp] theorem State.raiseInvalid_sgPrev : (s.raiseInvalid).sgPrev = s.sgPrev := rfl
@[simp] theorem State.raiseInvalid_homeIn : (s.raiseInvalid).homeIn = s.homeIn := rfl
@[simp] theorem State.raiseInvalid_sgIn : (s.raiseInvalid).sgIn = s.sgIn := rfl
@[simp] theorem State.raiseInvalid_link : (s.raiseInvalid).link = s.link := rfl
@[simp] theorem State.raiseInvalid_resetHeld : (s.raiseInvalid).resetHeld = s.resetHeld := rfl
@[simp] theorem State.raiseInvalid_tasks : (s.raiseInvalid).tasks = s.tasks := rfl
@[simp] theorem State.raiseInvalid_port : (s.raiseInvalid).port = s.port := rfl
@[simp] theorem State.raiseInvalid_result : (s.raiseInvalid).result = .code .invalidInput := rfl
@[simp] theorem State.raiseInvalid_out : (s.raiseInvalid).out = s.out := rfl
@[simp] theorem State.raiseInvalid_script : (s.raiseInvalid).script = s.script := rfl
@[simp] theorem State.raiseInvalid_moveCount : (s.raiseInvalid).moveCount = s.moveCount := rfl

@[simp] theorem State.emit_cfg (e : PortEvent) : (s.emit e).cfg = s.cfg := rfl
@[simp] theorem State.emit_reg (e : PortEvent) : (s.emit e).reg = s.reg := rfl
@[simp] theorem State.emit_valid (e : PortEvent) : (s.emit e).valid = s.valid := rfl
@[simp] theorem State.emit_direction (e : PortEvent) : (s.emit e).direction = s.direction := rfl
@[simp] theorem State.emit_steps (e : PortEvent) : (s.emit e).steps = s.steps := rfl
@[simp] theorem State.emit_tilt (e : PortEvent) : (s.emit e).tilt = s.tilt := rfl
@[simp] theorem State.emit_ticks (e : PortEvent) : (s.emit e).ticks = s.ticks := rfl
@[simp] theorem State.emit_profileIdx (e : PortEvent) : (s.emit e).profileIdx = s.profileIdx := rfl
@[simp] theorem State.emit_profileActive (e : PortEvent) : (s.emit e).profileActive = s.profileActive := rfl
@[simp] theorem State.emit_sweepDir (e : PortEvent) : (s.emit e).sweepDir = s.sweepDir := rfl
@[simp] theorem State.emit_tmrPeriod (e : PortEvent) : (s.emit e).tmrPeriod = s.tmrPeriod := rfl
@[simp] theorem State.emit_tmrRun (e : PortEvent) : (s.emit e).tmrRun = s.tmrRun := rfl
@[simp] theorem State.emit_csLine (e : PortEvent) : (s.emit e).csLine = s.csLine := rfl
@[simp] theorem State.emit_enLine (e : PortEvent) : (s.emit e).enLine = s.enLine := rfl
@[simp] theorem State.emit_dirLine (e : PortEvent) : (s.emit e).dirLine = s.dirLine := rfl
@[simp] theorem State.emit_stepLine (e : PortEvent) : (s.emit e).stepLine = s.stepLine := rfl
@[simp] theorem State.emit_pend (e : PortEvent) : (s.emit e).pend = s.pend := rfl
@[simp] theorem State.emit_homePrev (e : PortEvent) : (s.emit e).homePrev = s.homePrev := rfl
@[simp] theorem State.emit_sgPrev (e : PortEvent) : (s.emit e).sgPrev = s.sgPrev := rfl
@[simp] theorem State.emit_homeIn (e : PortEvent) : (s.emit e).homeIn = s.homeIn := rfl
@[simp] theorem State.emit_sgIn (e : PortEvent) : (s.emit e).sgIn = s.sgIn := rfl
@[simp] theorem State.emit_link (e : PortEvent) : (s.emit e).link = s.link := rfl
@[simp] theorem State.emit_resetHeld (e : PortEvent) : (s.emit e).resetHeld = s.resetHeld := rfl
@[simp] theorem State.emit_tasks (e : PortEvent) : (s.emit e).tasks = s.tasks := rfl
@[simp] theorem State.emit_port (e : PortEvent) : (s.emit e).port = s.port := rfl
@[simp] theorem State.emit_result (e : PortEvent) : (s.emit e).result = s.result := rfl
@[simp] theorem State.emit_out (e : PortEvent) : (s.emit e).out = s.out ++ [e] := rfl
@[simp] theorem State.emit_script (e : PortEvent) : (s.emit e).script = s.script := rfl
@[simp] theorem State.emit_moveCount (e : PortEvent) : (s.emit e).moveCount = s.moveCount := rfl

@[simp] theorem State.setChipSelect_cfg (b : Bool) : (s.setChipSelect b).cfg = s.cfg := rfl
@[simp] theorem State.setChipSelect_reg (b : Bool) : (s.setChipSelect b).reg = s.reg := rfl
@[simp] theorem State.setChipSelect_valid (b : Bool) : (s.setChipSelect b).valid = s.valid := rfl
@[simp] theorem State.setChipSelect_direction (b : Bool) : (s.setChipSelect b).direction = s.direction := rfl
@[simp] theorem State.setChipSelect_steps (b : Bool) : (s.setChipSelect b).steps = s.steps := rfl
@[simp] theorem State.setChipSelect_tilt (b : Bool) : (s.setChipSelect b).tilt = s.tilt := rfl
@[simp] theorem State.setChipSelect_ticks (b : Bool) : (s.setChipSelect b).ticks = s.ticks := rfl
@[simp] theorem State.setChipSelect_profileIdx (b : Bool) : (s.setChipSelect b).profileIdx = s.profileIdx := rfl
@[simp] theorem State.setChipSelect_profileActive (b : Bool) : (s.setChipSelect b).profileActive = s.profileActive := rfl
@[simp] theorem State.setChipSelect_sweepDir (b : Bool) : (s.setChipSelect b).sweepDir = s.sweepDir := rfl
@[simp] theorem State.setChipSelect_tmrPeriod (b : Bool) : (s.setChipSelect b).tmrPeriod = s.tmrPeriod := rfl
@[simp] theorem State.setChipSelect_tmrRun (b : Bool) : (s.setChipSelect b).tmrRun = s.tmrRun := rfl
@[simp] theorem State.setChipSelect_csLine (b : Bool) : (s.setChipSelect b).csLine = b := rfl
@[simp] theorem State.setChipSelect_enLine (b : Bool) : (s.setChipSelect b).enLine = s.enLine := rfl
@[simp] theorem State.setChipSelect_dirLine (b : Bool) : (s.setChipSelect b).dirLine = s.dirLine := rfl
@[simp] theorem State.setChipSelect_stepLine (b : Bool) : (s.setChipSelect b).stepLine = s.stepLine := rfl
@[simp] theorem State.setChipSelect_pend (b : Bool) : (s.setChipSelect b).pend = s.pend := rfl
@[simp] theorem State.setChipSelect_homePrev (b : Bool) : (s.setChipSelect b).homePrev = s.homePrev := rfl
@[simp] theorem State.setChipSelect_sgPrev (b : Bool) : (s.setChipSelect b).sgPrev = s.sgPrev := rfl
@[simp] theorem State.setChipSelect_homeIn (b : Bool) : (s.setChipSelect b).homeIn = s.homeIn := rfl
@[simp] theorem State.setChipSelect_sgIn (b : Bool) : (s.setChipSelect b).sgIn = s.sgIn := rfl
@[simp] theorem State.setChipSelect_link (b : Bool) : (s.setChipSelect b).link = s.link := rfl
@[simp] theorem State.setChipSelect_resetHeld (b : Bool) : (s.setChipSelect b).resetHeld = s.resetHeld := rfl
@[simp] theorem State.setChipSelect_tasks (b : Bool) : (s.setChipSelect b).tasks = s.tasks := rfl
@[simp] theorem State.setChipSelect_port (b : Bool) : (s.setChipSelect b).port = s.port := rfl
@[simp] theorem State.setChipSelect_result (b : Bool) : (s.setChipSelect b).result = s.result := rfl
@[simp] theorem State.setChipSelect_out (b : Bool) : (s.setChipSelect b).out = s.out ++ [.chipSelect b] := rfl
@[simp] theorem State.setChipSelect_script (b : Bool) : (s.setChipSelect b).script = s.script := rfl
@[simp] theorem State.setChipSelect_moveCount (b : Bool) : (s.setChipSelect b).moveCount = s.moveCount := rfl

@[simp] theorem State.setEnable_cfg (b : Bool) : (s.setEnable b).cfg = s.cfg := rfl
@[simp] theorem State.setEnable_reg (b : Bool) : (s.setEnable b).reg = s.reg := rfl
@[simp] theorem State.setEnable_valid (b : Bool) : (s.setEnable b).valid = s.valid := rfl
@[simp] theorem State.setEnable_direction (b : Bool) : (s.setEnable b).direction = s.direction := rfl
@[simp] theorem State.setEnable_steps (b : Bool) : (s.setEnable b).steps = s.steps := rfl
@[simp] theorem State.setEnable_tilt (b : Bool) : (s.setEnable b).tilt = s.tilt := rfl
@[simp] theorem State.setEnable_ticks (b : Bool) : (s.setEnable b).ticks = s.ticks := rfl
@[simp] theorem State.setEnable_profileIdx (b : Bool) : (s.setEnable b).profileIdx = s.profileIdx := rfl
@[simp] theorem State.setEnable_profileActive (b : Bool) : (s.setEnable b).profileActive = s.profileActive := rfl
@[simp] theorem State.setEnable_sweepDir (b : Bool) : (s.setEnable b).sweepDir = s.sweepDir := rfl
@[simp] theorem State.setEnable_tmrPeriod (b : Bool) : (s.setEnable b).tmrPeriod = s.tmrPeriod := rfl
@[simp] theorem State.setEnable_tmrRun (b : Bool) : (s.setEnable b).tmrRun = s.tmrRun := rfl
@[simp] theorem State.setEnable_csLine (b : Bool) : (s.setEnable b).csLine = s.csLine := rfl
@[simp] theorem State.setEnable_enLine (b : Bool) : (s.setEnable b).enLine = b := rfl
@[simp] theorem State.setEnable_dirLine (b : Bool) : (s.setEnable b).dirLine = s.dirLine := rfl
@[simp] theorem State.setEnable_stepLine (b : Bool) : (s.setEnable b).stepLine = s.stepLine := rfl
@[simp] theorem State.setEnable_pend (b : Bool) : (s.setEnable b).pend = s.pend := rfl
@[simp] theorem State.setEnable_homePrev (b : Bool) : (s.setEnable b).homePrev = s.homePrev := rfl
@[simp] theorem State.setEnable_sgPrev (b : Bool) : (s.setEnable b).sgPrev = s.sgPrev := rfl
@[simp] theorem State.setEnable_homeIn (b : Bool) : (s.setEnable b).homeIn = s.homeIn := rfl
@[simp] theorem State.setEnable_sgIn (b : Bool) : (s.setEnable b).sgIn = s.sgIn := rfl
@[simp] theorem State.setEnable_link (b : Bool) : (s.setEnable b).link = s.link := rfl
@[simp] theorem State.setEnable_resetHeld (b : Bool) : (s.setEnable b).resetHeld = s.resetHeld := rfl
@[simp] theorem State.setEnable_tasks (b : Bool) : (s.setEnable b).tasks = s.tasks := rfl
@[simp] theorem State.setEnable_port (b : Bool) : (s.setEnable b).port = s.port := rfl
@[simp] theorem State.setEnable_result (b : Bool) : (s.setEnable b).result = s.result := rfl
@[simp] theorem State.setEnable_out (b : Bool) : (s.setEnable b).out = s.out := rfl
@[simp] theorem State.setEnable_script (b : Bool) : (s.setEnable b).script = s.script := rfl
@[simp] theorem State.setEnable_moveCount (b : Bool) : (s.setEnable b).moveCount = s.moveCount := rfl

@[simp] theorem State.linkSend_cfg (b : Byte) : (s.linkSend b).cfg = s.cfg := rfl
@[simp] theorem State.linkSend_reg (b : Byte) : (s.linkSend b).reg = s.reg := rfl
@[simp] theorem State.linkSend_valid (b : Byte) : (s.linkSend b).valid = s.valid := rfl
@[simp] theorem State.linkSend_direction (b : Byte) : (s.linkSend b).direction = s.direction := rfl
@[simp] theorem State.linkSend_steps (b : Byte) : (s.linkSend b).steps = s.steps := rfl
@[simp] theorem State.linkSend_tilt (b : Byte) : (s.linkSend b).tilt = s.tilt := rfl
@[simp] theorem State.linkSend_ticks (b : Byte) : (s.linkSend b).ticks = s.ticks := rfl
@[simp] theorem State.linkSend_profileIdx (b : Byte) : (s.linkSend b).profileIdx = s.profileIdx := rfl
@[simp] theorem State.linkSend_profileActive (b : Byte) : (s.linkSend b).profileActive = s.profileActive := rfl
@[simp] theorem State.linkSend_sweepDir (b : Byte) : (s.linkSend b).sweepDir = s.sweepDir := rfl
@[simp] theorem State.linkSend_tmrPeriod (b : Byte) : (s.linkSend b).tmrPeriod = s.tmrPeriod := rfl
@[simp] theorem State.linkSend_tmrRun (b : Byte) : (s.linkSend b).tmrRun = s.tmrRun := rfl
@[simp] theorem State.linkSend_csLine (b : Byte) : (s.linkSend b).csLine = s.csLine := rfl
@[simp] theorem State.linkSend_enLine (b : Byte) : (s.linkSend b).enLine = s.enLine := rfl
@[simp] theorem State.linkSend_dirLine (b : Byte) : (s.linkSend b).dirLine = s.dirLine := rfl
@[simp] theorem State.linkSend_stepLine (b : Byte) : (s.linkSend b).stepLine = s.stepLine := rfl
@[simp] theorem State.linkSend_pend (b : Byte) : (s.linkSend b).pend = s.pend := rfl
@[simp] theorem State.linkSend_homePrev (b : Byte) : (s.linkSend b).homePrev = s.homePrev := rfl
@[simp] theorem State.linkSend_sgPrev (b : Byte) : (s.linkSend b).sgPrev = s.sgPrev := rfl
@[simp] theorem State.linkSend_homeIn (b : Byte) : (s.linkSend b).homeIn = s.homeIn := rfl
@[simp] theorem State.linkSend_sgIn (b : Byte) : (s.linkSend b).sgIn = s.sgIn := rfl
@[simp] theorem State.linkSend_link (b : Byte) : (s.linkSend b).link = s.link := rfl
@[simp] theorem State.linkSend_resetHeld (b : Byte) : (s.linkSend b).resetHeld = s.resetHeld := rfl
@[simp] theorem State.linkSend_tasks (b : Byte) : (s.linkSend b).tasks = s.tasks := rfl
@[simp] theorem State.linkSend_port (b : Byte) : (s.linkSend b).port = s.port := rfl
@[simp] theorem State.linkSend_result (b : Byte) : (s.linkSend b).result = s.result := rfl
@[simp] theorem State.linkSend_out (b : Byte) : (s.linkSend b).out = s.out ++ [.linkTx b] := rfl
@[simp] theorem State.linkSend_script (b : Byte) : (s.linkSend b).script = s.script := rfl
@[simp] theorem State.linkSend_moveCount (b : Byte) : (s.linkSend b).moveCount = s.moveCount := rfl

@[simp] theorem State.linkRecv_cfg : (s.linkRecv).cfg = s.cfg := rfl
@[simp] theorem State.linkRecv_reg : (s.linkRecv).reg = s.reg := rfl
@[simp] theorem State.linkRecv_valid : (s.linkRecv).valid = s.valid := rfl
@[simp] theorem State.linkRecv_direction : (s.linkRecv).direction = s.direction := rfl
@[simp] theorem State.linkRecv_steps : (s.linkRecv).steps = s.steps := rfl
@[simp] theorem State.linkRecv_tilt : (s.linkRecv).tilt = s.tilt := rfl
@[simp] theorem State.linkRecv_ticks : (s.linkRecv).ticks = s.ticks := rfl
@[simp] theorem State.linkRecv_profileIdx : (s.linkRecv).profileIdx = s.profileIdx := rfl
@[simp] theorem State.linkRecv_profileActive : (s.linkRecv).profileActive = s.profileActive := rfl
@[simp] theorem State.linkRecv_sweepDir : (s.linkRecv).sweepDir = s.sweepDir := rfl
@[simp] theorem State.linkRecv_tmrPeriod : (s.linkRecv).tmrPeriod = s.tmrPeriod := rfl
@[simp] theorem State.linkRecv_tmrRun : (s.linkRecv).tmrRun = s.tmrRun := rfl
@[simp] theorem State.linkRecv_csLine : (s.linkRecv).csLine = s.csLine := rfl
@[simp] theorem State.linkRecv_enLine : (s.linkRecv).enLine = s.enLine := rfl
@[simp] theorem State.linkRecv_dirLine : (s.linkRecv).dirLine = s.dirLine := rfl
@[simp] theorem State.linkRecv_stepLine : (s.linkRecv).stepLine = s.stepLine := rfl
@[simp] theorem State.linkRecv_pend : (s.linkRecv).pend = s.pend := rfl
@[simp] theorem State.linkRecv_homePrev : (s.linkRecv).homePrev = s.homePrev := rfl
@[simp] theorem State.linkRecv_sgPrev : (s.linkRecv).sgPrev = s.sgPrev := rfl
@[simp] theorem State.linkRecv_homeIn : (s.linkRecv).homeIn = s.homeIn := rfl
@[simp] theorem State.linkRecv_sgIn : (s.linkRecv).sgIn = s.sgIn := rfl
@[simp] theorem State.linkRecv_link : (s.linkRecv).link = { s.link with rxne := false } := rfl
@[simp] theorem State.linkRecv_resetHeld : (s.linkRecv).resetHeld = s.resetHeld := rfl
@[simp] theorem State.linkRecv_tasks : (s.linkRecv).tasks = s.tasks := rfl
@[simp] theorem State.linkRecv_port : (s.linkRecv).port = s.port := rfl
@[simp] theorem State.linkRecv_result : (s.linkRecv).result = s.result := rfl
@[simp] theorem State.linkRecv_out : (s.linkRecv).out = s.out := rfl
@[simp] theorem State.linkRecv_script : (s.linkRecv).script = s.script := rfl
@[simp] theorem State.linkRecv_moveCount : (s.linkRecv).moveCount = s.moveCount := rfl

@[simp] theorem State.commit_cfg (r : RegId) (w : Word20) : (s.commit r w).cfg = s.cfg := rfl
@[simp] theorem State.commit_reg (r : RegId) (w : Word20) : (s.commit r w).reg = s.reg.set r w := rfl
@[simp] theorem State.commit_valid (r : RegId) (w : Word20) : (s.commit r w).valid = s.valid.set r true := rfl
@[simp] theorem State.commit_direction (r : RegId) (w : Word20) : (s.commit r w).direction = s.direction := rfl
@[simp] theorem State.commit_steps (r : RegId) (w : Word20) : (s.commit r w).steps = s.steps := rfl
@[simp] theorem State.commit_tilt (r : RegId) (w : Word20) : (s.commit r w).tilt = s.tilt := rfl
@[simp] theorem State.commit_ticks (r : RegId) (w : Word20) : (s.commit r w).ticks = s.ticks := rfl
@[simp] theorem State.commit_profileIdx (r : RegId) (w : Word20) : (s.commit r w).profileIdx = s.profileIdx := rfl
@[simp] theorem State.commit_profileActive (r : RegId) (w : Word20) : (s.commit r w).profileActive = s.profileActive := rfl
@[simp] theorem State.commit_sweepDir (r : RegId) (w : Word20) : (s.commit r w).sweepDir = s.sweepDir := rfl
@[simp] theorem State.commit_tmrPeriod (r : RegId) (w : Word20) : (s.commit r w).tmrPeriod = s.tmrPeriod := rfl
@[simp] theorem State.commit_tmrRun (r : RegId) (w : Word20) : (s.commit r w).tmrRun = s.tmrRun := rfl
@[simp] theorem State.commit_csLine (r : RegId) (w : Word20) : (s.commit r w).csLine = s.csLine := rfl
@[simp] theorem State.commit_enLine (r : RegId) (w : Word20) : (s.commit r w).enLine = s.enLine := rfl
@[simp] theorem State.commit_dirLine (r : RegId) (w : Word20) : (s.commit r w).dirLine = s.dirLine := rfl
@[simp] theorem State.commit_stepLine (r : RegId) (w : Word20) : (s.commit r w).stepLine = s.stepLine := rfl
@[simp] theorem State.commit_pend (r : RegId) (w : Word20) : (s.commit r w).pend = s.pend := rfl
@[simp] theorem State.commit_homePrev (r : RegId) (w : Word20) : (s.commit r w).homePrev = s.homePrev := rfl
@[simp] theorem State.commit_sgPrev (r : RegId) (w : Word20) : (s.commit r w).sgPrev = s.sgPrev := rfl
@[simp] theorem State.commit_homeIn (r : RegId) (w : Word20) : (s.commit r w).homeIn = s.homeIn := rfl
@[simp] theorem State.commit_sgIn (r : RegId) (w : Word20) : (s.commit r w).sgIn = s.sgIn := rfl
@[simp] theorem State.commit_link (r : RegId) (w : Word20) : (s.commit r w).link = s.link := rfl
@[simp] theorem State.commit_resetHeld (r : RegId) (w : Word20) : (s.commit r w).resetHeld = s.resetHeld := rfl
@[simp] theorem State.commit_tasks (r : RegId) (w : Word20) : (s.commit r w).tasks = s.tasks := rfl
@[simp] theorem State.commit_port (r : RegId) (w : Word20) : (s.commit r w).port = s.port := rfl
@[simp] theorem State.commit_result (r : RegId) (w : Word20) : (s.commit r w).result = s.result := rfl
@[simp] theorem State.commit_out (r : RegId) (w : Word20) : (s.commit r w).out = s.out := rfl
@[simp] theorem State.commit_script (r : RegId) (w : Word20) : (s.commit r w).script = s.script := rfl
@[simp] theorem State.commit_moveCount (r : RegId) (w : Word20) : (s.commit r w).moveCount = s.moveCount := rfl

@[simp] theorem State.enter_cfg (t : TiltState) : (s.enter t).cfg = s.cfg := rfl
@[simp] theorem State.enter_reg (t : TiltState) : (s.enter t).reg = s.reg := rfl
@[simp] theorem State.enter_valid (t : TiltState) : (s.enter t).valid = s.valid := rfl
@[simp] theorem State.enter_direction (t : TiltState) : (s.enter t).direction = s.direction := rfl
@[simp] theorem State.enter_steps (t : TiltState) : (s.enter t).steps = s.steps := rfl
@[simp] theorem State.enter_tilt (t : TiltState) : (s.enter t).tilt = t := rfl
@[simp] theorem State.enter_ticks (t : TiltState) : (s.enter t).ticks = 0 := rfl
@[simp] theorem State.enter_profileIdx (t : TiltState) : (s.enter t).profileIdx = s.profileIdx := rfl
@[simp] theorem State.enter_profileActive (t : TiltState) : (s.enter t).profileActive = false := rfl
@[simp] theorem State.enter_sweepDir (t : TiltState) : (s.enter t).sweepDir = s.sweepDir := rfl
@[simp] theorem State.enter_tmrPeriod (t : TiltState) : (s.enter t).tmrPeriod = s.tmrPeriod := rfl
@[simp] theorem State.enter_tmrRun (t : TiltState) : (s.enter t).tmrRun = s.tmrRun := rfl
@[simp] theorem State.enter_csLine (t : TiltState) : (s.enter t).csLine = s.csLine := rfl
@[simp] theorem State.enter_enLine (t : TiltState) : (s.enter t).enLine = s.enLine := rfl
@[simp] theorem State.enter_dirLine (t : TiltState) : (s.enter t).dirLine = s.dirLine := rfl
@[simp] theorem State.enter_stepLine (t : TiltState) : (s.enter t).stepLine = s.stepLine := rfl
@[simp] theorem State.enter_pend (t : TiltState) : (s.enter t).pend = s.pend := rfl
@[simp] theorem State.enter_homePrev (t : TiltState) : (s.enter t).homePrev = s.homePrev := rfl
@[simp] theorem State.enter_sgPrev (t : TiltState) : (s.enter t).sgPrev = s.sgPrev := rfl
@[simp] theorem State.enter_homeIn (t : TiltState) : (s.enter t).homeIn = s.homeIn := rfl
@[simp] theorem State.enter_sgIn (t : TiltState) : (s.enter t).sgIn = s.sgIn := rfl
@[simp] theorem State.enter_link (t : TiltState) : (s.enter t).link = s.link := rfl
@[simp] theorem State.enter_resetHeld (t : TiltState) : (s.enter t).resetHeld = s.resetHeld := rfl
@[simp] theorem State.enter_tasks (t : TiltState) : (s.enter t).tasks = s.tasks := rfl
@[simp] theorem State.enter_port (t : TiltState) : (s.enter t).port = s.port := rfl
@[simp] theorem State.enter_result (t : TiltState) : (s.enter t).result = s.result := rfl
@[simp] theorem State.enter_out (t : TiltState) : (s.enter t).out = s.out := rfl
@[simp] theorem State.enter_script (t : TiltState) : (s.enter t).script = s.script := rfl
@[simp] theorem State.enter_moveCount (t : TiltState) : (s.enter t).moveCount = s.moveCount := rfl

@[simp] theorem State.programTimer_cfg (p : Word32) : (s.programTimer p).cfg = s.cfg := rfl
@[simp] theorem State.programTimer_reg (p : Word32) : (s.programTimer p).reg = s.reg := rfl
@[simp] theorem State.programTimer_valid (p : Word32) : (s.programTimer p).valid = s.valid := rfl
@[simp] theorem State.programTimer_direction (p : Word32) : (s.programTimer p).direction = s.direction := rfl
@[simp] theorem State.programTimer_steps (p : Word32) : (s.programTimer p).steps = s.steps := rfl
@[simp] theorem State.programTimer_tilt (p : Word32) : (s.programTimer p).tilt = s.tilt := rfl
@[simp] theorem State.programTimer_ticks (p : Word32) : (s.programTimer p).ticks = s.ticks := rfl
@[simp] theorem State.programTimer_profileIdx (p : Word32) : (s.programTimer p).profileIdx = s.profileIdx := rfl
@[simp] theorem State.programTimer_profileActive (p : Word32) : (s.programTimer p).profileActive = s.profileActive := rfl
@[simp] theorem State.programTimer_sweepDir (p : Word32) : (s.programTimer p).sweepDir = s.sweepDir := rfl
@[simp] theorem State.programTimer_tmrPeriod (p : Word32) : (s.programTimer p).tmrPeriod = p := rfl
@[simp] theorem State.programTimer_tmrRun (p : Word32) : (s.programTimer p).tmrRun = true := rfl
@[simp] theorem State.programTimer_csLine (p : Word32) : (s.programTimer p).csLine = s.csLine := rfl
@[simp] theorem State.programTimer_enLine (p : Word32) : (s.programTimer p).enLine = s.enLine := rfl
@[simp] theorem State.programTimer_dirLine (p : Word32) : (s.programTimer p).dirLine = s.dirLine := rfl
@[simp] theorem State.programTimer_stepLine (p : Word32) : (s.programTimer p).stepLine = s.stepLine := rfl
@[simp] theorem State.programTimer_pend (p : Word32) : (s.programTimer p).pend = s.pend := rfl
@[simp] theorem State.programTimer_homePrev (p : Word32) : (s.programTimer p).homePrev = s.homePrev := rfl
@[simp] theorem State.programTimer_sgPrev (p : Word32) : (s.programTimer p).sgPrev = s.sgPrev := rfl
@[simp] theorem State.programTimer_homeIn (p : Word32) : (s.programTimer p).homeIn = s.homeIn := rfl
@[simp] theorem State.programTimer_sgIn (p : Word32) : (s.programTimer p).sgIn = s.sgIn := rfl
@[simp] theorem State.programTimer_link (p : Word32) : (s.programTimer p).link = s.link := rfl
@[simp] theorem State.programTimer_resetHeld (p : Word32) : (s.programTimer p).resetHeld = s.resetHeld := rfl
@[simp] theorem State.programTimer_tasks (p : Word32) : (s.programTimer p).tasks = s.tasks := rfl
@[simp] theorem State.programTimer_port (p : Word32) : (s.programTimer p).port = s.port := rfl
@[simp] theorem State.programTimer_result (p : Word32) : (s.programTimer p).result = s.result := rfl
@[simp] theorem State.programTimer_out (p : Word32) : (s.programTimer p).out = s.out := rfl
@[simp] theorem State.programTimer_script (p : Word32) : (s.programTimer p).script = s.script := rfl
@[simp] theorem State.programTimer_moveCount (p : Word32) : (s.programTimer p).moveCount = s.moveCount := rfl

@[simp] theorem State.countTick_cfg : (s.countTick).cfg = s.cfg := rfl
@[simp] theorem State.countTick_reg : (s.countTick).reg = s.reg := rfl
@[simp] theorem State.countTick_valid : (s.countTick).valid = s.valid := rfl
@[simp] theorem State.countTick_direction : (s.countTick).direction = s.direction := rfl
@[simp] theorem State.countTick_steps : (s.countTick).steps = s.steps := rfl
@[simp] theorem State.countTick_tilt : (s.countTick).tilt = s.tilt := rfl
@[simp] theorem State.countTick_profileIdx : (s.countTick).profileIdx = s.profileIdx := rfl
@[simp] theorem State.countTick_profileActive : (s.countTick).profileActive = s.profileActive := rfl
@[simp] theorem State.countTick_sweepDir : (s.countTick).sweepDir = s.sweepDir := rfl
@[simp] theorem State.countTick_tmrPeriod : (s.countTick).tmrPeriod = s.tmrPeriod := rfl
@[simp] theorem State.countTick_tmrRun : (s.countTick).tmrRun = s.tmrRun := rfl
@[simp] theorem State.countTick_csLine : (s.countTick).csLine = s.csLine := rfl
@[simp] theorem State.countTick_enLine : (s.countTick).enLine = s.enLine := rfl
@[simp] theorem State.countTick_dirLine : (s.countTick).dirLine = s.dirLine := rfl
@[simp] theorem State.countTick_stepLine : (s.countTick).stepLine = s.stepLine := rfl
@[simp] theorem State.countTick_pend : (s.countTick).pend = s.pend := rfl
@[simp] theorem State.countTick_homePrev : (s.countTick).homePrev = s.homePrev := rfl
@[simp] theorem State.countTick_sgPrev : (s.countTick).sgPrev = s.sgPrev := rfl
@[simp] theorem State.countTick_homeIn : (s.countTick).homeIn = s.homeIn := rfl
@[simp] theorem State.countTick_sgIn : (s.countTick).sgIn = s.sgIn := rfl
@[simp] theorem State.countTick_link : (s.countTick).link = s.link := rfl
@[simp] theorem State.countTick_resetHeld : (s.countTick).resetHeld = s.resetHeld := rfl
@[simp] theorem State.countTick_tasks : (s.countTick).tasks = s.tasks := rfl
@[simp] theorem State.countTick_port : (s.countTick).port = s.port := rfl
@[simp] theorem State.countTick_result : (s.countTick).result = s.result := rfl
@[simp] theorem State.countTick_out : (s.countTick).out = s.out := rfl
@[simp] theorem State.countTick_script : (s.countTick).script = s.script := rfl
@[simp] theorem State.countTick_moveCount : (s.countTick).moveCount = s.moveCount := rfl

@[simp] theorem State.turnTo_cfg (d : Direction) : (s.turnTo d).cfg = s.cfg := rfl
@[simp] theorem State.turnTo_reg (d : Direction) : (s.turnTo d).reg = s.reg := rfl
@[simp] theorem State.turnTo_valid (d : Direction) : (s.turnTo d).valid = s.valid := rfl
@[simp] theorem State.turnTo_direction (d : Direction) : (s.turnTo d).direction = d := rfl
@[simp] theorem State.turnTo_steps (d : Direction) : (s.turnTo d).steps = s.steps := rfl
@[simp] theorem State.turnTo_tilt (d : Direction) : (s.turnTo d).tilt = s.tilt := rfl
@[simp] theorem State.turnTo_ticks (d : Direction) : (s.turnTo d).ticks = s.ticks := rfl
@[simp] theorem State.turnTo_profileIdx (d : Direction) : (s.turnTo d).profileIdx = s.profileIdx := rfl
@[simp] theorem State.turnTo_profileActive (d : Direction) : (s.turnTo d).profileActive = s.profileActive := rfl
@[simp] theorem State.turnTo_sweepDir (d : Direction) : (s.turnTo d).sweepDir = s.sweepDir := rfl
@[simp] theorem State.turnTo_tmrPeriod (d : Direction) : (s.turnTo d).tmrPeriod = s.tmrPeriod := rfl
@[simp] theorem State.turnTo_tmrRun (d : Direction) : (s.turnTo d).tmrRun = s.tmrRun := rfl
@[simp] theorem State.turnTo_csLine (d : Direction) : (s.turnTo d).csLine = s.csLine := rfl
@[simp] theorem State.turnTo_enLine (d : Direction) : (s.turnTo d).enLine = s.enLine := rfl
@[simp] theorem State.turnTo_stepLine (d : Direction) : (s.turnTo d).stepLine = s.stepLine := rfl
@[simp] theorem State.turnTo_pend (d : Direction) : (s.turnTo d).pend = s.pend := rfl
@[simp] theorem State.turnTo_homePrev (d : Direction) : (s.turnTo d).homePrev = s.homePrev := rfl
@[simp] theorem State.turnTo_sgPrev (d : Direction) : (s.turnTo d).sgPrev = s.sgPrev := rfl
@[simp] theorem State.turnTo_homeIn (d : Direction) : (s.turnTo d).homeIn = s.homeIn := rfl
@[simp] theorem State.turnTo_sgIn (d : Direction) : (s.turnTo d).sgIn = s.sgIn := rfl
@[simp] theorem State.turnTo_link (d : Direction) : (s.turnTo d).link = s.link := rfl
@[simp] theorem State.turnTo_resetHeld (d : Direction) : (s.turnTo d).resetHeld = s.resetHeld := rfl
@[simp] theorem State.turnTo_tasks (d : Direction) : (s.turnTo d).tasks = s.tasks := rfl
@[simp] theorem State.turnTo_port (d : Direction) : (s.turnTo d).port = s.port := rfl
@[simp] theorem State.turnTo_result (d : Direction) : (s.turnTo d).result = s.result := rfl
@[simp] theorem State.turnTo_out (d : Direction) : (s.turnTo d).out = s.out := rfl
@[simp] theorem State.turnTo_script (d : Direction) : (s.turnTo d).script = s.script := rfl
@[simp] theorem State.turnTo_moveCount (d : Direction) : (s.turnTo d).moveCount = s.moveCount := rfl

@[simp] theorem State.pulse_cfg : (s.pulse).cfg = s.cfg := rfl
@[simp] theorem State.pulse_reg : (s.pulse).reg = s.reg := rfl
@[simp] theorem State.pulse_valid : (s.pulse).valid = s.valid := rfl
@[simp] theorem State.pulse_direction : (s.pulse).direction = s.direction := rfl
@[simp] theorem State.pulse_steps : (s.pulse).steps = s.cfg.wrapSteps (s.steps + s.direction.sign) := rfl
@[simp] theorem State.pulse_tilt : (s.pulse).tilt = s.tilt := rfl
@[simp] theorem State.pulse_ticks : (s.pulse).ticks = s.ticks := rfl
@[simp] theorem State.pulse_profileIdx : (s.pulse).profileIdx = s.profileIdx := rfl
@[simp] theorem State.pulse_profileActive : (s.pulse).profileActive = s.profileActive := rfl
@[simp] theorem State.pulse_sweepDir : (s.pulse).sweepDir = s.sweepDir := rfl
@[simp] theorem State.pulse_tmrPeriod : (s.pulse).tmrPeriod = s.tmrPeriod := rfl
@[simp] theorem State.pulse_tmrRun : (s.pulse).tmrRun = s.tmrRun := rfl
@[simp] theorem State.pulse_csLine : (s.pulse).csLine = s.csLine := rfl
@[simp] theorem State.pulse_enLine : (s.pulse).enLine = s.enLine := rfl
@[simp] theorem State.pulse_dirLine : (s.pulse).dirLine = s.dirLine := rfl
@[simp] theorem State.pulse_stepLine : (s.pulse).stepLine = !s.stepLine := rfl
@[simp] theorem State.pulse_pend : (s.pulse).pend = s.pend := rfl
@[simp] theorem State.pulse_homePrev : (s.pulse).homePrev = s.homePrev := rfl
@[simp] theorem State.pulse_sgPrev : (s.pulse).sgPrev = s.sgPrev := rfl
@[simp] theorem State.pulse_homeIn : (s.pulse).homeIn = s.homeIn := rfl
@[simp] theorem State.pulse_sgIn : (s.pulse).sgIn = s.sgIn := rfl
@[simp] theorem State.pulse_link : (s.pulse).link = s.link := rfl
@[simp] theorem State.pulse_resetHeld : (s.pulse).resetHeld = s.resetHeld := rfl
@[simp] theorem State.pulse_tasks : (s.pulse).tasks = s.tasks := rfl
@[simp] theorem State.pulse_port : (s.pulse).port = s.port := rfl
@[simp] theorem State.pulse_result : (s.pulse).result = s.result := rfl
@[simp] theorem State.pulse_out : (s.pulse).out = s.out := rfl
@[simp] theorem State.pulse_script : (s.pulse).script = s.script := rfl
@[simp] theorem State.pulse_moveCount : (s.pulse).moveCount = s.moveCount := rfl

@[simp] theorem State.enterHandler_cfg (k : Source) : (s.enterHandler k).cfg = s.cfg := rfl
@[simp] theorem State.enterHandler_reg (k : Source) : (s.enterHandler k).reg = s.reg := rfl
@[simp] theorem State.enterHandler_valid (k : Source) : (s.enterHandler k).valid = s.valid := rfl
@[simp] theorem State.enterHandler_direction (k : Source) : (s.enterHandler k).direction = s.direction := rfl
@[simp] theorem State.enterHandler_steps (k : Source) : (s.enterHandler k).steps = s.steps := rfl
@[simp] theorem State.enterHandler_tilt (k : Source) : (s.enterHandler k).tilt = s.tilt := rfl
@[simp] theorem State.enterHandler_ticks (k : Source) : (s.enterHandler k).ticks = s.ticks := rfl
@[simp] theorem State.enterHandler_profileIdx (k : Source) : (s.enterHandler k).profileIdx = s.profileIdx := rfl
@[simp] theorem State.enterHandler_profileActive (k : Source) : (s.enterHandler k).profileActive = s.profileActive := rfl
@[simp] theorem State.enterHandler_sweepDir (k : Source) : (s.enterHandler k).sweepDir = s.sweepDir := rfl
@[simp] theorem State.enterHandler_tmrPeriod (k : Source) : (s.enterHandler k).tmrPeriod = s.tmrPeriod := rfl
@[simp] theorem State.enterHandler_tmrRun (k : Source) : (s.enterHandler k).tmrRun = s.tmrRun := rfl
@[simp] theorem State.enterHandler_csLine (k : Source) : (s.enterHandler k).csLine = s.csLine := rfl
@[simp] theorem State.enterHandler_enLine (k : Source) : (s.enterHandler k).enLine = s.enLine := rfl
@[simp] theorem State.enterHandler_dirLine (k : Source) : (s.enterHandler k).dirLine = s.dirLine := rfl
@[simp] theorem State.enterHandler_stepLine (k : Source) : (s.enterHandler k).stepLine = s.stepLine := rfl
@[simp] theorem State.enterHandler_pend (k : Source) : (s.enterHandler k).pend = s.pend.set k false := rfl
@[simp] theorem State.enterHandler_homePrev (k : Source) : (s.enterHandler k).homePrev = s.homePrev := rfl
@[simp] theorem State.enterHandler_sgPrev (k : Source) : (s.enterHandler k).sgPrev = s.sgPrev := rfl
@[simp] theorem State.enterHandler_homeIn (k : Source) : (s.enterHandler k).homeIn = s.homeIn := rfl
@[simp] theorem State.enterHandler_sgIn (k : Source) : (s.enterHandler k).sgIn = s.sgIn := rfl
@[simp] theorem State.enterHandler_link (k : Source) : (s.enterHandler k).link = s.link := rfl
@[simp] theorem State.enterHandler_resetHeld (k : Source) : (s.enterHandler k).resetHeld = s.resetHeld := rfl
@[simp] theorem State.enterHandler_tasks (k : Source) : (s.enterHandler k).tasks = s.tasks := rfl
@[simp] theorem State.enterHandler_port (k : Source) : (s.enterHandler k).port = s.port := rfl
@[simp] theorem State.enterHandler_result (k : Source) : (s.enterHandler k).result = s.result := rfl
@[simp] theorem State.enterHandler_out (k : Source) : (s.enterHandler k).out = s.out := rfl
@[simp] theorem State.enterHandler_script (k : Source) : (s.enterHandler k).script = s.script := rfl
@[simp] theorem State.enterHandler_moveCount (k : Source) : (s.enterHandler k).moveCount = s.moveCount := rfl

@[simp] theorem State.raiseEvent_cfg (k : Source) : (s.raiseEvent k).cfg = s.cfg := rfl
@[simp] theorem State.raiseEvent_reg (k : Source) : (s.raiseEvent k).reg = s.reg := rfl
@[simp] theorem State.raiseEvent_valid (k : Source) : (s.raiseEvent k).valid = s.valid := rfl
@[simp] theorem State.raiseEvent_direction (k : Source) : (s.raiseEvent k).direction = s.direction := rfl
@[simp] theorem State.raiseEvent_steps (k : Source) : (s.raiseEvent k).steps = s.steps := rfl
@[simp] theorem State.raiseEvent_tilt (k : Source) : (s.raiseEvent k).tilt = s.tilt := rfl
@[simp] theorem State.raiseEvent_ticks (k : Source) : (s.raiseEvent k).ticks = s.ticks := rfl
@[simp] theorem State.raiseEvent_profileIdx (k : Source) : (s.raiseEvent k).profileIdx = s.profileIdx := rfl
@[simp] theorem State.raiseEvent_profileActive (k : Source) : (s.raiseEvent k).profileActive = s.profileActive := rfl
@[simp] theorem State.raiseEvent_sweepDir (k : Source) : (s.raiseEvent k).sweepDir = s.sweepDir := rfl
@[simp] theorem State.raiseEvent_tmrPeriod (k : Source) : (s.raiseEvent k).tmrPeriod = s.tmrPeriod := rfl
@[simp] theorem State.raiseEvent_tmrRun (k : Source) : (s.raiseEvent k).tmrRun = s.tmrRun := rfl
@[simp] theorem State.raiseEvent_csLine (k : Source) : (s.raiseEvent k).csLine = s.csLine := rfl
@[simp] theorem State.raiseEvent_enLine (k : Source) : (s.raiseEvent k).enLine = s.enLine := rfl
@[simp] theorem State.raiseEvent_dirLine (k : Source) : (s.raiseEvent k).dirLine = s.dirLine := rfl
@[simp] theorem State.raiseEvent_stepLine (k : Source) : (s.raiseEvent k).stepLine = s.stepLine := rfl
@[simp] theorem State.raiseEvent_pend (k : Source) : (s.raiseEvent k).pend = s.pend.set k true := rfl
@[simp] theorem State.raiseEvent_homePrev (k : Source) : (s.raiseEvent k).homePrev = s.homePrev := rfl
@[simp] theorem State.raiseEvent_sgPrev (k : Source) : (s.raiseEvent k).sgPrev = s.sgPrev := rfl
@[simp] theorem State.raiseEvent_homeIn (k : Source) : (s.raiseEvent k).homeIn = s.homeIn := rfl
@[simp] theorem State.raiseEvent_sgIn (k : Source) : (s.raiseEvent k).sgIn = s.sgIn := rfl
@[simp] theorem State.raiseEvent_link (k : Source) : (s.raiseEvent k).link = s.link := rfl
@[simp] theorem State.raiseEvent_resetHeld (k : Source) : (s.raiseEvent k).resetHeld = s.resetHeld := rfl
@[simp] theorem State.raiseEvent_tasks (k : Source) : (s.raiseEvent k).tasks = s.tasks := rfl
@[simp] theorem State.raiseEvent_port (k : Source) : (s.raiseEvent k).port = s.port := rfl
@[simp] theorem State.raiseEvent_result (k : Source) : (s.raiseEvent k).result = s.result := rfl
@[simp] theorem State.raiseEvent_out (k : Source) : (s.raiseEvent k).out = s.out := rfl
@[simp] theorem State.raiseEvent_script (k : Source) : (s.raiseEvent k).script = s.script := rfl
@[simp] theorem State.raiseEvent_moveCount (k : Source) : (s.raiseEvent k).moveCount = s.moveCount := rfl

@[simp] theorem State.hold_cfg (l : List Micro) (rx : Received) : (s.hold l rx).cfg = s.cfg := rfl
@[simp] theorem State.hold_reg (l : List Micro) (rx : Received) : (s.hold l rx).reg = s.reg := rfl
@[simp] theorem State.hold_valid (l : List Micro) (rx : Received) : (s.hold l rx).valid = s.valid := rfl
@[simp] theorem State.hold_direction (l : List Micro) (rx : Received) : (s.hold l rx).direction = s.direction := rfl
@[simp] theorem State.hold_steps (l : List Micro) (rx : Received) : (s.hold l rx).steps = s.steps := rfl
@[simp] theorem State.hold_tilt (l : List Micro) (rx : Received) : (s.hold l rx).tilt = s.tilt := rfl
@[simp] theorem State.hold_ticks (l : List Micro) (rx : Received) : (s.hold l rx).ticks = s.ticks := rfl
@[simp] theorem State.hold_profileIdx (l : List Micro) (rx : Received) : (s.hold l rx).profileIdx = s.profileIdx := rfl
@[simp] theorem State.hold_profileActive (l : List Micro) (rx : Received) : (s.hold l rx).profileActive = s.profileActive := rfl
@[simp] theorem State.hold_sweepDir (l : List Micro) (rx : Received) : (s.hold l rx).sweepDir = s.sweepDir := rfl
@[simp] theorem State.hold_tmrPeriod (l : List Micro) (rx : Received) : (s.hold l rx).tmrPeriod = s.tmrPeriod := rfl
@[simp] theorem State.hold_tmrRun (l : List Micro) (rx : Received) : (s.hold l rx).tmrRun = s.tmrRun := rfl
@[simp] theorem State.hold_csLine (l : List Micro) (rx : Received) : (s.hold l rx).csLine = s.csLine := rfl
@[simp] theorem State.hold_enLine (l : List Micro) (rx : Received) : (s.hold l rx).enLine = s.enLine := rfl
@[simp] theorem State.hold_dirLine (l : List Micro) (rx : Received) : (s.hold l rx).dirLine = s.dirLine := rfl
@[simp] theorem State.hold_stepLine (l : List Micro) (rx : Received) : (s.hold l rx).stepLine = s.stepLine := rfl
@[simp] theorem State.hold_pend (l : List Micro) (rx : Received) : (s.hold l rx).pend = s.pend := rfl
@[simp] theorem State.hold_homePrev (l : List Micro) (rx : Received) : (s.hold l rx).homePrev = s.homePrev := rfl
@[simp] theorem State.hold_sgPrev (l : List Micro) (rx : Received) : (s.hold l rx).sgPrev = s.sgPrev := rfl
@[simp] theorem State.hold_homeIn (l : List Micro) (rx : Received) : (s.hold l rx).homeIn = s.homeIn := rfl
@[simp] theorem State.hold_sgIn (l : List Micro) (rx : Received) : (s.hold l rx).sgIn = s.sgIn := rfl
@[simp] theorem State.hold_link (l : List Micro) (rx : Received) : (s.hold l rx).link = s.link := rfl
@[simp] theorem State.hold_resetHeld (l : List Micro) (rx : Received) : (s.hold l rx).resetHeld = s.resetHeld := rfl
@[simp] theorem State.hold_tasks (l : List Micro) (rx : Received) : (s.hold l rx).tasks = ⟨l, rx⟩ :: s.tasks := rfl
@[simp] theorem State.hold_port (l : List Micro) (rx : Received) : (s.hold l rx).port = s.port := rfl
@[simp] theorem State.hold_result (l : List Micro) (rx : Received) : (s.hold l rx).result = s.result := rfl
@[simp] theorem State.hold_out (l : List Micro) (rx : Received) : (s.hold l rx).out = s.out := rfl
@[simp] theorem State.hold_script (l : List Micro) (rx : Received) : (s.hold l rx).script = s.script := rfl
@[simp] theorem State.hold_moveCount (l : List Micro) (rx : Received) : (s.hold l rx).moveCount = s.moveCount := rfl

end Sys2Proof.Machine
end

