-- ==== Sys2Proof/Laws/Ops.lean ====
section
/-! SUPPORT. What each shared operation can do, said once. -/

namespace Sys2Proof.Machine

/-! ## Registers by name -/

@[simp] theorem PerReg.get_set_same {α : Type} (p : PerReg α) (r : RegId) (a : α) : (p.set r a).get r = a := by
  cases r <;> rfl

theorem PerReg.get_set_other {α : Type} (p : PerReg α) {r q : RegId} (a : α) (h : q ≠ r) :
    (p.set r a).get q = p.get q := by
  cases r <;> cases q <;> first | rfl | exact absurd rfl h

@[simp] theorem Pending.get_set_same (p : Pending) (k : Source) (b : Bool) : (p.set k b).get k = b := by
  cases k <;> rfl

theorem Pending.get_set_other (p : Pending) {k j : Source} (b : Bool) (h : j ≠ k) : (p.set k b).get j = p.get j := by
  cases k <;> cases j <;> first | rfl | exact absurd rfl h

@[simp] theorem Pending.set_tick_high (p : Pending) (b : Bool) : (p.set .tick b).high = p.high := rfl

/-! ## The link while the block is held -/

/-- A condition that holds already takes no move. -/
theorem Link.await_of_meets {w : Wait} {l : Link} (h : l.meets w = true) (ms : List Move) : l.await w ms = (l, ms) := by
  cases ms <;> simp [Link.await, h]

/-- Awaiting a condition takes link moves only, in order, and applies each. -/
theorem Link.await_spec (w : Wait) (l : Link) (ms : List Move) :
    ∃ acts : List LinkAction, ms = acts.map Move.link ++ (l.await w ms).2 ∧ (l.await w ms).1 = acts.foldl Link.act l := by
  induction ms generalizing l with
  | nil => exact ⟨[], by simp [Link.await]⟩
  | cons m ms ih =>
    unfold Link.await
    split
    · exact ⟨[], by simp⟩
    · cases m with
      | link a =>
        obtain ⟨acts, h1, h2⟩ := ih (l.act a)
        refine ⟨a :: acts, ?_, ?_⟩
        · simpa using h1
        · simpa using h2
      | event e => exact ⟨[], by simp⟩
      | block k => exact ⟨[], by simp⟩

/-- Waiting for the end of a delay takes link moves only, in order, and applies each. -/
theorem Link.awaitElapsed_spec (l : Link) (ms : List Move) :
    ∃ acts : List LinkAction,
      ms = acts.map Move.link ++ (l.awaitElapsed ms).2.2 ∧ (l.awaitElapsed ms).2.1 = acts.foldl Link.act l := by
  induction ms generalizing l with
  | nil => exact ⟨[], by simp [Link.awaitElapsed]⟩
  | cons m ms ih =>
    cases m with
    | event e => exact ⟨[], by simp [Link.awaitElapsed]⟩
    | block k => exact ⟨[], by simp [Link.awaitElapsed]⟩
    | link a =>
      cases a with
      | elapsed => exact ⟨[.elapsed], by simp [Link.awaitElapsed, Link.act]⟩
      | txe b =>
        obtain ⟨acts, h1, h2⟩ := ih (l.act (.txe b))
        exact ⟨.txe b :: acts, by simpa [Link.awaitElapsed] using h1, by simpa [Link.awaitElapsed] using h2⟩
      | bsy b =>
        obtain ⟨acts, h1, h2⟩ := ih (l.act (.bsy b))
        exact ⟨.bsy b :: acts, by simpa [Link.awaitElapsed] using h1, by simpa [Link.awaitElapsed] using h2⟩
      | received b =>
        obtain ⟨acts, h1, h2⟩ := ih (l.act (.received b))
        exact ⟨.received b :: acts, by simpa [Link.awaitElapsed] using h1, by simpa [Link.awaitElapsed] using h2⟩

/-! ## One line of an operation -/

/-- A wait changes the link and the moves left, nothing else; it is passed only where its condition holds. -/
theorem State.attemptWait_cases (w : Wait) (rx : Received) (s : State) :
    (∃ l ms, l.meets w = true ∧ s.attemptWait w rx = .done rx { s with link := l, script := ms }) ∨
      ∃ l ms, l.meets w = false ∧ s.attemptWait w rx = .held { s with link := l, script := ms } := by
  unfold State.attemptWait
  split
  · exact .inl ⟨s.link, s.script, ‹_›, rfl⟩
  · rename_i hm
    split
    · exact .inr ⟨s.link, s.script, by simpa using hm, rfl⟩
    · cases h : (s.link.await w s.script) with
      | mk l ms =>
        by_cases hw : l.meets w = true
        · exact .inl ⟨l, ms, hw, by simp [hw]⟩
        · exact .inr ⟨l, ms, by simpa using hw, by simp [hw]⟩

/-- A delay changes the link and the moves left, nothing else. -/
theorem State.attemptGuard_cases (rx : Received) (s : State) :
    ∃ l ms, s.attemptGuard rx = .done rx { s with link := l, script := ms } ∨
      s.attemptGuard rx = .held { s with link := l, script := ms } := by
  unfold State.attemptGuard
  split
  · exact ⟨s.link, s.script, .inr rfl⟩
  · generalize s.link.awaitElapsed s.script = q
    obtain ⟨e, l, ms⟩ := q
    refine ⟨l, ms, ?_⟩
    cases e <;> simp

/-- Only a wait or a delay can be held, and being held changes the link and the moves left, nothing else. -/
theorem Micro.attempt_held {m : Micro} {rx : Received} {s s' : State} (h : m.attempt rx s = .held s') :
    ((∃ w, m = .wait w) ∨ ∃ g, m = .guard g) ∧ ∃ l ms, s' = { s with link := l, script := ms } := by
  cases m with
  | wait w =>
    refine ⟨.inl ⟨w, rfl⟩, ?_⟩
    rcases State.attemptWait_cases w rx s with ⟨l, ms, _, e⟩ | ⟨l, ms, _, e⟩
    · simp [Micro.attempt, e] at h
    · exact ⟨l, ms, by simpa [Micro.attempt, e] using h.symm⟩
  | guard g =>
    refine ⟨.inr ⟨g, rfl⟩, ?_⟩
    obtain ⟨l, ms, e | e⟩ := State.attemptGuard_cases rx s
    · simp [Micro.attempt, e] at h
    · exact ⟨l, ms, by simpa [Micro.attempt, e] using h.symm⟩
  | _ => simp [Micro.attempt] at h

/-- What a line of an operation does when it is done. -/
theorem Micro.attempt_done {m : Micro} {rx rx' : Received} {s s' : State} (h : m.attempt rx s = .done rx' s') :
    match m with
    | .chipSelect b => rx' = rx ∧ s' = s.setChipSelect b
    | .wait w => rx' = rx ∧ ∃ l ms, l.meets w = true ∧ s' = { s with link := l, script := ms }
    | .send t => rx' = rx ∧ s' = s.linkSend t
    | .recv slot => rx' = rx.set slot s.link.rx ∧ s' = s.linkRecv
    | .guard _ => rx' = rx ∧ ∃ l ms, s' = { s with link := l, script := ms }
    | .commit r w => rx' = rx ∧ s' = s.commit r w
    | .enable b => rx' = rx ∧ s' = s.setEnable b
    | .enter t => rx' = rx ∧ s' = s.enter t
    | .testDelayExit => rx' = rx ∧ s' = s.testDelayExit
    | .telemetry k => rx' = rx ∧ s' = s.sendTelemetry (rx.statusOf s.cfg.respMap k)
    | .returnByte => rx' = rx ∧ s' = s.answer (.byte rx.r0)
    | .returnFrame => rx' = rx ∧ s' = s.answer (.frame rx.r0 rx.r1 rx.r2)
    | .returnCode c => rx' = rx ∧ s' = s.answer (.code c)
    | .returnStatus k => rx' = rx ∧ s' = s.answer (.status (rx.statusOf s.cfg.respMap k)) := by
  cases m with
  | wait w =>
    rcases State.attemptWait_cases w rx s with ⟨l, ms, hm, e⟩ | ⟨l, ms, _, e⟩
    · simp only [Micro.attempt, e, Progress.done.injEq] at h
      exact ⟨h.1.symm, l, ms, hm, h.2.symm⟩
    · simp [Micro.attempt, e] at h
  | guard g =>
    obtain ⟨l, ms, e | e⟩ := State.attemptGuard_cases rx s
    · simp only [Micro.attempt, e, Progress.done.injEq] at h
      exact ⟨h.1.symm, l, ms, h.2.symm⟩
    · simp [Micro.attempt, e] at h
  | _ =>
    simp only [Micro.attempt, Progress.done.injEq] at h
    exact ⟨h.1.symm, h.2.symm⟩

/-- The exit of TestDelay enters TiltTable or changes nothing (R198). -/
theorem State.testDelayExit_cases (s : State) :
    (s.cfg.testDelayTicks ≤ s.ticks.toNat ∧ s.testDelayExit = s.enter .tiltTable) ∨
      (¬s.cfg.testDelayTicks ≤ s.ticks.toNat ∧ s.testDelayExit = s) := by
  by_cases h : s.cfg.testDelayTicks ≤ s.ticks.toNat
  · exact .inl ⟨h, if_pos h⟩
  · exact .inr ⟨h, if_neg h⟩

/-! ## A segment of an operation -/

/-- Induction over a segment: `P` holds of what is left and the state before each line; a line that is done keeps it;
where the segment is held, or ends, `Q` holds. -/
theorem runMicros_induct {P : List Micro → Received → State → Prop} {Q : State → Prop}
    (done : ∀ m rest rx s rx' s', P (m :: rest) rx s → m.attempt rx s = .done rx' s' → P rest rx' s')
    (held : ∀ m rest rx s s', P (m :: rest) rx s → m.attempt rx s = .held s' → Q (s'.hold (m :: rest) rx))
    (ends : ∀ rx s, P [] rx s → Q s) :
    ∀ l rx s, P l rx s → Q (runMicros l rx s) := by
  intro l
  induction l with
  | nil => intro rx s h; exact ends rx s h
  | cons m rest ih =>
    intro rx s h
    unfold runMicros
    split
    · exact ih _ _ (done _ _ _ _ _ _ h ‹_›)
    · exact held _ _ _ _ _ h ‹_›

/-- A segment leaves alone every field that no line of an operation writes. -/
theorem runMicros_frame (l : List Micro) (rx : Received) (s : State) :
    let t := runMicros l rx s
    t.cfg = s.cfg ∧ t.direction = s.direction ∧ t.steps = s.steps ∧ t.profileIdx = s.profileIdx ∧
      t.sweepDir = s.sweepDir ∧ t.tmrPeriod = s.tmrPeriod ∧ t.tmrRun = s.tmrRun ∧ t.dirLine = s.dirLine ∧
      t.stepLine = s.stepLine ∧ t.pend = s.pend ∧ t.homePrev = s.homePrev ∧ t.sgPrev = s.sgPrev ∧
      t.homeIn = s.homeIn ∧ t.sgIn = s.sgIn ∧ t.resetHeld = s.resetHeld ∧ t.port = s.port ∧
      t.moveCount = s.moveCount := by
  induction l generalizing rx s with
  | nil => simp [runMicros]
  | cons m rest ih =>
    unfold runMicros
    cases h : m.attempt rx s with
    | held s' =>
      obtain ⟨_, l, ms, rfl⟩ := Micro.attempt_held h
      simp
    | done rx' s' =>
      have hd := Micro.attempt_done h
      have hs := ih rx' s'
      revert hd
      cases m with
      | wait w => rintro ⟨-, l, ms, -, rfl⟩; simpa using hs
      | guard g => rintro ⟨-, l, ms, rfl⟩; simpa using hs
      | testDelayExit =>
        rintro ⟨-, rfl⟩
        rcases s.testDelayExit_cases with ⟨_, e⟩ | ⟨_, e⟩ <;> rw [e] at hs ⊢ <;> simpa using hs
      | _ => rintro ⟨-, rfl⟩; simpa [State.sendTelemetry] using hs

end Sys2Proof.Machine
end

