-- ==== Sys2Proof/Laws/PerInstr.lean ====
section
/-! SUPPORT. Statements about every instruction, one lemma per constructor: what an instruction's encoding is, as bytes. -/

namespace Sys2Proof.Laws

/-- A row that has bits is a frame of exactly three bytes (R67, R80). -/
def EncodedFrame.Statement (i : Instr) : Prop := ∀ bs, encode i = some bs → bs.length = 3

/-- Whatever a row's frame is, it is written as three bytes (R13). -/
theorem EncodedFrame.of_frame (i : Instr) : EncodedFrame.Statement i := by
  intro bs h
  obtain ⟨f, _, rfl⟩ := Option.map_eq_some_iff.mp h
  rfl

theorem EncodedFrame.txframe (w : Word20) : EncodedFrame.Statement (.txframe w) :=
  EncodedFrame.of_frame _

theorem EncodedFrame.rxframe (r : Word20) (x : BitVec 4) : EncodedFrame.Statement (.rxframe r x) :=
  EncodedFrame.of_frame _

theorem EncodedFrame.drvctrlSd (intpol : BitVec 1) (dedge : BitVec 1) (mres : BitVec 4)
    : EncodedFrame.Statement (.drvctrlSd intpol dedge mres) :=
  EncodedFrame.of_frame _

theorem EncodedFrame.drvctrlSpi (pha : BitVec 1) (ca : BitVec 8) (phb : BitVec 1) (cb : BitVec 8)
    : EncodedFrame.Statement (.drvctrlSpi pha ca phb cb) :=
  EncodedFrame.of_frame _

theorem EncodedFrame.chopconf (tbl : BitVec 2) (chm : BitVec 1) (rndtf : BitVec 1) (hdec : BitVec 2)
    (hend : BitVec 4) (hstrt : BitVec 3) (toff : BitVec 4)
    : EncodedFrame.Statement (.chopconf tbl chm rndtf hdec hend hstrt toff) :=
  EncodedFrame.of_frame _

theorem EncodedFrame.smarten (seimin : BitVec 1) (sedn : BitVec 2) (semax : BitVec 4) (seup : BitVec 2)
    (semin : BitVec 4)
    : EncodedFrame.Statement (.smarten seimin sedn semax seup semin) :=
  EncodedFrame.of_frame _

theorem EncodedFrame.sgcsconf (sfilt : BitVec 1) (sgt : BitVec 7) (cs : BitVec 5)
    : EncodedFrame.Statement (.sgcsconf sfilt sgt cs) :=
  EncodedFrame.of_frame _

theorem EncodedFrame.drvconf (tst : BitVec 1) (slph : BitVec 2) (slpl : BitVec 2) (diss2g : BitVec 1)
    (ts2g : BitVec 2) (sdoff : BitVec 1) (vsense : BitVec 1) (rdsel : BitVec 2)
    : EncodedFrame.Statement (.drvconf tst slph slpl diss2g ts2g sdoff vsense rdsel) :=
  EncodedFrame.of_frame _

theorem EncodedFrame.respPos (mstep : BitVec 10) (x : BitVec 2) (status : Byte)
    : EncodedFrame.Statement (.respPos mstep x status) :=
  EncodedFrame.of_frame _

theorem EncodedFrame.respSg (sg : BitVec 10) (x : BitVec 2) (status : Byte)
    : EncodedFrame.Statement (.respSg sg x status) :=
  EncodedFrame.of_frame _

theorem EncodedFrame.respSgcs (sgh : BitVec 5) (se : BitVec 5) (x : BitVec 2) (status : Byte)
    : EncodedFrame.Statement (.respSgcs sgh se x status) :=
  EncodedFrame.of_frame _

theorem EncodedFrame.pack (w : Word20) : EncodedFrame.Statement (.pack w) :=
  EncodedFrame.of_frame _

theorem EncodedFrame.unpack (b0 : Byte) (b1 : Byte) (b2 : Byte) : EncodedFrame.Statement (.unpack b0 b1 b2) :=
  EncodedFrame.of_frame _

theorem EncodedFrame.xferByte (t : Byte) : EncodedFrame.Statement (.xferByte t) :=
  EncodedFrame.of_frame _

theorem EncodedFrame.exchange (t0 : Byte) (t1 : Byte) (t2 : Byte)
    : EncodedFrame.Statement (.exchange t0 t1 t2) :=
  EncodedFrame.of_frame _

theorem EncodedFrame.setDrvctrlSd (intpol : Word32) (dedge : Word32) (mres : Word32)
    : EncodedFrame.Statement (.setDrvctrlSd intpol dedge mres) :=
  EncodedFrame.of_frame _

theorem EncodedFrame.setDrvctrlSpi (pha : Word32) (ca : Word32) (phb : Word32) (cb : Word32)
    : EncodedFrame.Statement (.setDrvctrlSpi pha ca phb cb) :=
  EncodedFrame.of_frame _

theorem EncodedFrame.setChopconf (tbl : Word32) (chm : Word32) (rndtf : Word32) (hdec : Word32)
    (hend : Word32) (hstrt : Word32) (toff : Word32)
    : EncodedFrame.Statement (.setChopconf tbl chm rndtf hdec hend hstrt toff) :=
  EncodedFrame.of_frame _

theorem EncodedFrame.setSmarten (seimin : Word32) (sedn : Word32) (semax : Word32) (seup : Word32) (semin : Word32)
    : EncodedFrame.Statement (.setSmarten seimin sedn semax seup semin) :=
  EncodedFrame.of_frame _

theorem EncodedFrame.setSgcsconf (sfilt : Word32) (sgt : Word32) (cs : Word32)
    : EncodedFrame.Statement (.setSgcsconf sfilt sgt cs) :=
  EncodedFrame.of_frame _

theorem EncodedFrame.setDrvconf (tst : Word32) (slph : Word32) (slpl : Word32) (diss2g : Word32)
    (ts2g : Word32) (sdoff : Word32) (vsense : Word32) (rdsel : Word32)
    : EncodedFrame.Statement (.setDrvconf tst slph slpl diss2g ts2g sdoff vsense rdsel) :=
  EncodedFrame.of_frame _

theorem EncodedFrame.statusRead (kind : StatusKind) : EncodedFrame.Statement (.statusRead kind) :=
  EncodedFrame.of_frame _

theorem EncodedFrame.demux (kind : StatusKind) (resp : Word20) : EncodedFrame.Statement (.demux kind resp) :=
  EncodedFrame.of_frame _

theorem EncodedFrame.driverInit : EncodedFrame.Statement .driverInit :=
  EncodedFrame.of_frame _

theorem EncodedFrame.setDirection (d : Direction) : EncodedFrame.Statement (.setDirection d) :=
  EncodedFrame.of_frame _

theorem EncodedFrame.stepPulse : EncodedFrame.Statement .stepPulse :=
  EncodedFrame.of_frame _

theorem EncodedFrame.enter (target : TiltState) : EncodedFrame.Statement (.enter target) :=
  EncodedFrame.of_frame _

theorem EncodedFrame.tick : EncodedFrame.Statement .tick :=
  EncodedFrame.of_frame _

theorem EncodedFrame.initializeTick : EncodedFrame.Statement .initializeTick :=
  EncodedFrame.of_frame _

theorem EncodedFrame.homeTick : EncodedFrame.Statement .homeTick :=
  EncodedFrame.of_frame _

theorem EncodedFrame.testdelayTick : EncodedFrame.Statement .testdelayTick :=
  EncodedFrame.of_frame _

theorem EncodedFrame.tilttableTick : EncodedFrame.Statement .tilttableTick :=
  EncodedFrame.of_frame _

theorem EncodedFrame.testTickCw : EncodedFrame.Statement .testTickCw :=
  EncodedFrame.of_frame _

theorem EncodedFrame.testTickCcw : EncodedFrame.Statement .testTickCcw :=
  EncodedFrame.of_frame _

theorem EncodedFrame.stepExpiry : EncodedFrame.Statement .stepExpiry :=
  EncodedFrame.of_frame _

theorem EncodedFrame.homeEdge : EncodedFrame.Statement .homeEdge :=
  EncodedFrame.of_frame _

theorem EncodedFrame.stallEdge : EncodedFrame.Statement .stallEdge :=
  EncodedFrame.of_frame _

end Sys2Proof.Laws
end

