-- ==== Sys2Proof/Laws/Step.lean ====
section
/-! SUPPORT. What a step can do, said once: the inversion of `step`, of a move and of the selection. -/

namespace Sys2Proof.Machine

/-- Every row of the opcode table has a next state in every state: no meaning stops. -/
theorem exec_answers (i : Instr) (s : State) : ∃ t, exec i s = .next t := by
  cases i <;> exact ⟨_, rfl⟩

/-- Selection: the source that is served is pending, and TICK is served only where no operation is in progress and no
source of the highest level is pending. -/
theorem State.selectSource_some {s : State} {first k : Source} (h : s.selectSource first = some k) :
    s.pend.get k = true ∧ (k = .tick → s.tasks = [] ∧ s.pend.high = false) := by
  unfold State.selectSource Pending.selectHigh at h
  revert h
  generalize s.pend = p
  obtain ⟨t, st, ho, sl⟩ := p
  cases first <;> cases t <;> cases st <;> cases ho <;> cases sl <;> cases k <;>
    simp [Pending.get, Pending.high]

/-- What the next move changes besides being taken: the moves left or the count of free moves. -/
theorem State.nextMove_state (s : State) :
    ∃ ms n, s.nextMove.2 = { s with script := ms, moveCount := n } := by
  unfold State.nextMove
  split
  · exact ⟨_, s.moveCount, rfl⟩
  · exact ⟨s.script, _, rfl⟩

/-- What a step can do. -/
theorem step_cases {s t : State} (h : step s = .next t) :
    (∃ c i, s.port = some c ∧ s.resetHeld = false ∧ c.decode = .ok i ∧ exec i { s with port := none } = .next t) ∨
      ((s.port = none ∨ s.resetHeld = true) ∧ ∃ ms n,
        (∃ a, t = ({ s with script := ms, moveCount := n } : State).linkMove a) ∨
        (∃ e, ({ s with script := ms, moveCount := n } : State).deliver e = .next t) ∨
        (s.resetHeld = true ∧ t = { s with script := ms, moveCount := n }) ∨
        (s.resetHeld = false ∧ ∃ first k, s.selectSource first = some k ∧
          exec (handlerOf k) { s with script := ms, moveCount := n } = .next t) ∨
        (s.resetHeld = false ∧ t = ({ s with script := ms, moveCount := n } : State).resume)) := by
  unfold step at h
  split at h
  · rename_i c hp hr
    left
    unfold State.runCall at h
    split at h
    · exact ⟨c, _, hp, hr, ‹_›, h⟩
    · cases h
  · rename_i hne
    right
    have hp : s.port = none ∨ s.resetHeld = true := by
      cases hport : s.port with
      | none => exact .inl rfl
      | some c =>
        cases hr : s.resetHeld with
        | true => exact .inr rfl
        | false => exact absurd hr (hne c hport)
    refine ⟨hp, ?_⟩
    obtain ⟨ms, n, e⟩ := s.nextMove_state
    refine ⟨ms, n, ?_⟩
    rw [e] at h
    unfold State.take at h
    split at h
    · left
      exact ⟨_, (Host.Outcome.next.inj h).symm⟩
    · right; left
      exact ⟨_, h⟩
    · right; right
      unfold State.runBlock at h
      split at h
      · rename_i hr
        exact .inl ⟨hr, (Host.Outcome.next.inj h).symm⟩
      · rename_i hr
        right
        have hr : s.resetHeld = false := by simpa using hr
        split at h
        · rename_i k hk
          exact .inl ⟨hr, _, k, hk, h⟩
        · exact .inr ⟨hr, (Host.Outcome.next.inj h).symm⟩

/-! ## The step, case by case -/

/-- A decided move is the next one. -/
theorem State.nextMove_cons {s : State} {m : Move} {ms : List Move} (h : s.script = m :: ms) :
    s.nextMove = (m, { s with script := ms }) := by
  unfold State.nextMove
  rw [h]

/-- With no call on the port, a step takes the next move. -/
theorem step_of_portEmpty {s : State} (h : s.port = none) : step s = s.nextMove.2.take s.nextMove.1 := by
  unfold step
  split
  · rename_i hp _
    exact absurd (h.symm.trans hp) (by simp)
  · rfl

/-- While reset is asserted, a step takes the next move. -/
theorem step_of_resetHeld {s : State} (h : s.resetHeld = true) : step s = s.nextMove.2.take s.nextMove.1 := by
  unfold step
  split
  · rename_i hr
    exact absurd (h.symm.trans hr) (by simp)
  · rfl

/-- A presented call runs on the state with the port emptied. -/
theorem step_of_call {s : State} {c : Call} (h : s.port = some c) (hr : s.resetHeld = false) :
    step s = ({ s with port := none } : State).runCall c := by
  unfold step
  split
  · rename_i hp _
    rw [h] at hp
    cases hp
    rfl
  · rename_i hn
    exact absurd hr (hn c h)

/-- With a source of the highest level pending, one of them is selected. -/
theorem State.selectSource_of_high {s : State} (first : Source) (h : s.pend.high = true) :
    ∃ k, s.selectSource first = some k ∧ k ≠ .tick ∧ s.pend.get k = true := by
  unfold State.selectSource Pending.selectHigh
  revert h
  generalize s.pend = p
  obtain ⟨t, st, ho, sl⟩ := p
  cases first <;> cases t <;> cases st <;> cases ho <;> cases sl <;> simp [Pending.get, Pending.high]

/-- With no source of the highest level pending, TICK is selected if it is pending and no operation is in progress. -/
theorem State.selectSource_of_low {s : State} (first : Source) (h : s.pend.high = false) :
    s.selectSource first = if s.tasks.isEmpty && s.pend.tick then some .tick else none := by
  unfold State.selectSource Pending.selectHigh
  revert h
  generalize s.pend = p
  obtain ⟨t, st, ho, sl⟩ := p
  cases first <;> cases t <;> cases st <;> cases ho <;> cases sl <;> simp [Pending.get, Pending.high]

/-- The block runs the handler that is selected. -/
theorem State.runBlock_of_some {s : State} {first k : Source} (hr : s.resetHeld = false)
    (h : s.selectSource first = some k) : s.runBlock first = exec (handlerOf k) s := by
  unfold State.runBlock
  rw [hr, h]
  rfl

/-- With no source to serve, the block goes on with the operation in progress. -/
theorem State.runBlock_of_none {s : State} {first : Source} (hr : s.resetHeld = false)
    (h : s.selectSource first = none) : s.runBlock first = .next s.resume := by
  unfold State.runBlock
  rw [hr, h]
  rfl

/-- A move of the block with an operation in progress and no source of the highest level pending runs the operation's next
segment (R259, R262). -/
theorem step_of_held {s : State} {first : Source} {ms : List Move} {todo : List Micro} {rx : Received} {below : List Task}
    (hp : s.port = none) (hr : s.resetHeld = false) (hh : s.pend.high = false) (hs : s.script = .block first :: ms)
    (ht : s.tasks = ⟨todo, rx⟩ :: below) :
    step s = .next (runMicros todo rx { s with tasks := below, script := ms }) := by
  rw [step_of_portEmpty hp, State.nextMove_cons hs]
  simp only [State.take]
  rw [State.runBlock_of_none (by exact hr)]
  · simp only [State.resume, ht]
  · rw [State.selectSource_of_low _ (by exact hh)]
    simp [ht]

end Sys2Proof.Machine
end

