-- ==== Sys2Proof/Laws/Transport.lean ====
section
/-! SUPPORT. What one exchange and one byte transfer do on a prompt link, said once. -/

namespace Sys2Proof.Machine

/-- One byte transfer on a link that answers it at once (R121). -/
theorem run_xfer {t r : Byte} {slot : Slot} {todo : List Micro} {rx : Received} {s : State} {rest : List Move}
    (h : s.linkReady) (hs : s.script = .link (.received r) :: rest) :
    runMicros (xferPlan t slot ++ todo) rx s =
      runMicros todo (rx.set slot r)
        { s with link := { s.link with rx := r, rxne := false }, script := rest, out := s.out ++ [.linkTx t] } := by
  obtain ⟨h1, h2, h3, h4⟩ := h
  have hw : ∀ l : Link, l.rxne = true → l.await .rxne rest = (l, rest) := fun l hl => Link.await_of_meets (w := .rxne) hl rest
  simp [xferPlan, runMicros, Micro.attempt, State.attemptWait, Link.meets, h1, h2, h4, hs, Link.await,
    hw, Link.act, State.linkRecv, State.linkSend, State.emit]

/-- One guard delay that elapses at once (R125). -/
theorem run_guard {g : Guard} {todo : List Micro} {rx : Received} {s : State} {rest : List Move}
    (h : s.pend.high = false) (hs : s.script = .link .elapsed :: rest) :
    runMicros (.guard g :: todo) rx s = runMicros todo rx { s with script := rest } := by
  simp [runMicros, Micro.attempt, State.attemptGuard, h, hs, Link.awaitElapsed]

/-- One exchange on a prompt link (R123): its events in order, its three bytes, CS_LINE deasserted at the end. -/
theorem run_exchange {t0 t1 t2 r0 r1 r2 : Byte} {todo : List Micro} {rx : Received} {s : State} {rest : List Move}
    (h : s.linkReady) (hs : s.script = exchangeMoves r0 r1 r2 ++ rest) :
    runMicros (exchangePlan t0 t1 t2 ++ todo) rx s =
      runMicros todo ⟨r0, r1, r2⟩ (s.afterExchange r2 rest (exchangeEvents t0 t1 t2)) := by
  obtain ⟨h1, h2, h3, h4⟩ := h
  simp [exchangePlan, xferPlan, runMicros, Micro.attempt, State.attemptWait, State.attemptGuard, Link.meets, h1, h2, h3,
    h4, hs, exchangeMoves, Link.await, Link.awaitElapsed, Link.act, State.linkRecv, State.linkSend, State.emit,
    State.setChipSelect, State.afterExchange, exchangeEvents, Received.set]

/-- The exchange that carries a word, on a prompt link (R140, R150). -/
theorem run_sendWord {w : Word20} {r0 r1 r2 : Byte} {todo : List Micro} {rx : Received} {s : State} {rest : List Move}
    (h : s.linkReady) (hs : s.script = exchangeMoves r0 r1 r2 ++ rest) :
    runMicros (sendWordPlan w ++ todo) rx s =
      runMicros todo ⟨r0, r1, r2⟩ (s.afterExchange r2 rest (wordEvents w)) :=
  run_exchange h hs

/-- A prompt exchange leaves the link ready for the next one. -/
theorem State.linkReady_afterExchange {s : State} (h : s.linkReady) (r : Byte) (rest : List Move)
    (es : List PortEvent) : (s.afterExchange r rest es).linkReady :=
  ⟨h.1, rfl, h.2.2.1, h.2.2.2⟩

/-- A commit leaves the link ready. -/
theorem State.linkReady_commit {s : State} (h : s.linkReady) (r : RegId) (w : Word20) : (s.commit r w).linkReady := h

/-- The send and the commit of a setter, on a prompt link (R140). -/
theorem run_sendAndCommit {i : RegId} {w : Word20} {r : Byte × Byte × Byte} {todo : List Micro} {rx : Received}
    {s : State} {rest : List Move} (h : s.linkReady) (hs : s.script = answerMoves r ++ rest) :
    runMicros (sendWordPlan w ++ .commit i w :: todo) rx s =
      runMicros todo ⟨r.1, r.2.1, r.2.2⟩ ((s.afterExchange r.2.2 rest (wordEvents w)).commit i w) := by
  rw [run_sendWord h hs, runMicros]
  rfl

end Sys2Proof.Machine
end

