-- ==== Sys2Proof/Laws/Width.lean ====
section
/-! SUPPORT. What keeping a step count within POS_WIDTH bits does (R24). -/

namespace Sys2Proof

/-- What `wrapSteps` gives is a count that POS_WIDTH bits hold. -/
theorem Config.holdsSteps_wrapSteps (c : Config) (n : Int) : c.holdsSteps (c.wrapSteps n) := by
  have hp : 0 < 2 ^ c.posWidth := by positivity
  have h1 := Int.le_bmod (x := n) hp
  have h2 := Int.bmod_lt (x := n) hp
  unfold Config.holdsSteps Config.wrapSteps
  push_cast at h1 h2 ⊢
  generalize Int.bmod n (2 ^ c.posWidth) = b at *
  rcases Nat.eq_zero_or_pos c.posWidth with h | h
  · simp [h] at h1 h2 ⊢
    omega
  · obtain ⟨k, hk⟩ := Nat.exists_eq_succ_of_ne_zero h.ne'
    have hq : (2 : Int) ^ c.posWidth = 2 ^ k * 2 := by rw [hk, pow_succ]
    rw [hq] at h1 h2 ⊢
    generalize (2 : Int) ^ k = q at *
    omega

/-- What `wrapSteps` gives is the count modulo 2^POS_WIDTH. -/
theorem Config.dvd_wrapSteps_sub (c : Config) (n : Int) : (2 ^ c.posWidth : Int) ∣ c.wrapSteps n - n := by
  have h := Int.dvd_bmod_sub_self (x := n) (m := 2 ^ c.posWidth)
  push_cast at h
  exact h

/-- Two counts that POS_WIDTH bits hold and that differ by a multiple of 2^POS_WIDTH are the same. -/
theorem Config.holdsSteps_unique {c : Config} {m n : Int} (hm : c.holdsSteps m) (hn : c.holdsSteps n)
    (h : (2 ^ c.posWidth : Int) ∣ m - n) : m = n := by
  obtain ⟨k, hk⟩ := h
  unfold Config.holdsSteps at hm hn
  generalize (2 : Int) ^ c.posWidth = q at *
  have hq : 0 < q := by omega
  have h1 : k < 1 := by
    by_contra h
    nlinarith
  have h2 : -1 < k := by
    by_contra h
    nlinarith
  have : k = 0 := by omega
  subst this
  simp at hk
  omega

/-- A count that POS_WIDTH bits hold stays as it is. -/
theorem Config.wrapSteps_of_holds {c : Config} {n : Int} (h : c.holdsSteps n) : c.wrapSteps n = n :=
  holdsSteps_unique (c.holdsSteps_wrapSteps n) h (c.dvd_wrapSteps_sub n)

@[simp] theorem Config.wrapSteps_zero (c : Config) : c.wrapSteps 0 = 0 := by
  simp [Config.wrapSteps]

@[simp] theorem Config.wrapSteps_wrapSteps (c : Config) (n : Int) : c.wrapSteps (c.wrapSteps n) = c.wrapSteps n :=
  wrapSteps_of_holds (c.holdsSteps_wrapSteps n)

end Sys2Proof
end

