-- ==== Sys2Proof/Tests/Slice0.lean ====
section
/-! SUPPORT. The author's own tests: words written out from the spec's encodings, vectors of 95_test_vectors.md, and one
state for the hypotheses of each statement. The configuration is CFG-T of 95 section 1. -/

namespace Sys2Proof.Tests

open Sys2Proof.Machine

/-- CFG-T and its example INIT (95 section 1). -/
def cfgT : Config where
  gearNum := 4
  gearDen := 1
  microstepsPerRev := 3200
  posWidth := 32
  regMap := .default
  respMap := .default
  upperSteps := 1018
  lowerSteps := -203
  homingPeriod := 1000
  defaultPeriod := 500
  profile := [400, 300, 300, 400]
  testDelayTicks := 3
  testTickBudget := 3
  statusDecimation := 0
  tGuardByte := 0
  tGuardXact := 0
  tickRate := 0
  init :=
    { intpol := 0, dedge := 1, mres := 4
      tbl := 2, chm := 0, rndtf := 0, hdec := 0, hend := 3, hstrt := 3, toff := 4
      seimin := 1, sedn := 0, semax := 2, seup := 0, semin := 2
      sfilt := 1, sgt := 0, cs := 31
      tst := 0, slph := 3, slpl := 3, diss2g := 0, ts2g := 0, sdoff := 0, vsense := 1, rdsel := 0 }
  csActiveLevel := false
  enActiveLevel := false
  dirLevelCw := true
  homeCoveredLevel := true
  flagWidthSteps := 250
  reconcile := ReconcileTable.default 250
  homeDir := HomeDirTable.default
  firstSweepDir := .clockwise
  testDelayStatusKind := .position

/-- CFG-T has every default of R10's table. -/
theorem test_defaults : cfgT.withDefaults = cfgT := by decide

/-- CFG-T with the invalid INIT of 95 program P5. -/
def cfgP5 : Config := { cfgT with init := { cfgT.init with dedge := 2 } }

/-- The reset state of CFG-T. -/
def s0 : State := State.resetWith cfgT

/-- The reset state in another controller state with a tick count. -/
def inState (t : TiltState) (ticks : Word32) : State := { s0 with tilt := t, ticks := ticks }

/-- A state whose link answers these exchanges at once. -/
def answering (rs : List (Byte × Byte × Byte)) (s : State) : State := { s with script := rs.flatMap answerMoves }

/-- The state after a row, the same state if it stopped. -/
def after (i : Instr) (s : State) : State :=
  match exec i s with
  | .next t => t
  | .fault _ | .refused _ => s

/-- The state after a step, the same state if it stopped. -/
def afterStep (s : State) : State :=
  match step s with
  | .next t => t
  | .fault _ | .refused _ => s

/-! ## Well-formedness: an ill-formed term for each check -/

/-- A transmit frame of a CHOPCONF word is that layout (R86). -/
theorem test_wf_refuses_txframe_of_layout : (Instr.txframe 0x901B4).wellFormed = false := by decide
/-- `w[19:18] = 01` is no layout (R101). -/
theorem test_wf_accepts_txframe : (Instr.txframe 0x40000).wellFormed = true := by decide
/-- Four zero bits first make a transmit frame (R81). -/
theorem test_wf_refuses_rxframe_with_zero_top : (Instr.rxframe 0x01234 5).wellFormed = false := by decide
theorem test_wf_accepts_rxframe : (Instr.rxframe 0x12345 6).wellFormed = true := by decide
/-- Without SDOFF, a word with bits 17..10 and 7..4 zero is DRVCTRL_SD (R84). -/
theorem test_wf_refuses_spi_that_is_sd : (Instr.drvctrlSpi 0 0 1 4).wellFormed = false := by decide
theorem test_wf_accepts_spi : (Instr.drvctrlSpi 1 0xA5 0 0x3C).wellFormed = true := by decide
/-- A response is never named by its bits (R96 b). -/
theorem test_wf_refuses_untagged_response :
    (Instr.respPos 1 0 0).wellFormed = false ∧ (Instr.respSg 1 0 0).wellFormed = false ∧
      (Instr.respSgcs 1 0 0 0).wellFormed = false := by decide
/-- SDOFF = 1 excludes DRVCTRL_SD and SDOFF = 0 excludes DRVCTRL_SPI (R96 a). -/
theorem test_wfIn_refuses_wrong_subformat :
    (Instr.drvctrlSd 0 1 4).wellFormedIn (.driverWord true) = false ∧
      (Instr.drvctrlSpi 0 0 0 0).wellFormedIn (.driverWord false) = false := by decide
/-- A response is read under the kind that was requested (R96 b). -/
theorem test_wfIn_refuses_wrong_kind :
    (Instr.respSg 1 0 0).wellFormedIn (.response .position) = false ∧
      (Instr.respPos 1 0 0).wellFormedIn (.response .stallGuardLevel) = false ∧
      (Instr.respSgcs 1 0 0 0).wellFormedIn (.response .position) = false := by decide
/-- A frame row belongs to its direction, a layout to neither; an operation has no bits (R101). -/
theorem test_wfIn_refuses_wrong_frame :
    (Instr.txframe 0).wellFormedIn .rxFrame = false ∧ (Instr.rxframe 0 0).wellFormedIn .txFrame = false ∧
      (Instr.chopconf 0 0 0 0 0 0 0).wellFormedIn .txFrame = false ∧ Instr.tick.wellFormedIn .txFrame = false := by
  decide

/-- R90: fields that overlap each other, that lie beyond bit 19, that overlap the base template. -/
theorem test_wf_refuses_map :
    ({ RegMap.default with dedge := ⟨"DEDGE", 9, 1⟩ } : RegMap).wf = false ∧
      ({ RegMap.default with pha := ⟨"PHA", 20, 1⟩ } : RegMap).wf = false ∧
      ({ RegMap.default with tbl := ⟨"TBL", 18, 2⟩ } : RegMap).wf = false ∧
      ({ RespMap.default with se := ⟨"SE", 11, 5⟩ } : RespMap).wf = false := by decide
theorem test_wf_accepts_default_maps : RegMap.default.wf = true ∧ RespMap.default.wf = true := by decide

/-! ## Decoding: words written out from the spec's encodings -/

/-- R81: `0000` then 0xEF000. -/
theorem test_decode_txframe : decode .txFrame [0x0E, 0xF0, 0x00] = .ok (.txframe 0xEF000) := by decide
/-- R82, and the example of R111. -/
theorem test_decode_rxframe : decode .rxFrame [0x12, 0x34, 0x56] = .ok (.rxframe 0x12345 6) := by decide
/-- R84, 95 section 3.3: `0000000000 1 1 0000 1111` is 0x0030F. -/
theorem test_decode_drvctrlSd : decode (.driverWord false) [0x00, 0x03, 0x0F] = .ok (.drvctrlSd 1 1 15) := by decide
/-- R85: `00 1 10100101 0 00111100` is 0x34A3C. -/
theorem test_decode_drvctrlSpi :
    decode (.driverWord true) [0x03, 0x4A, 0x3C] = .ok (.drvctrlSpi 1 0xA5 0 0x3C) := by decide
/-- R86: `100 11 0 1 00 0000 000 0000` is 0x9A000 (95 S4). -/
theorem test_decode_chopconf :
    decode (.driverWord false) [0x09, 0xA0, 0x00] = .ok (.chopconf 3 0 1 0 0 0 0) := by decide
/-- R87: `1010 1 00 0 0010 0 00 0 0010` is 0xA8202. -/
theorem test_decode_smarten : decode (.driverWord false) [0x0A, 0x82, 0x02] = .ok (.smarten 1 0 2 0 2) := by decide
/-- R88: `110 0 0 1111111 000 00101` is 0xC7F05. -/
theorem test_decode_sgcsconf : decode (.driverWord true) [0x0C, 0x7F, 0x05] = .ok (.sgcsconf 0 0x7F 5) := by decide
/-- R89: `111 0 11 11 0 0 00 0 1 00 0000` is 0xEF040. -/
theorem test_decode_drvconf :
    decode (.driverWord true) [0x0E, 0xF0, 0x40] = .ok (.drvconf 0 3 3 0 0 0 1 0) := by decide
/-- R93: `0101010101 00 10000001` then four ignored bits is 55 48 10 (95 section 4). -/
theorem test_decode_respPos : decode (.response .position) [0x55, 0x48, 0x10] = .ok (.respPos 341 0 0x81) := by decide
/-- R94: `0010101001 00 11000001` is 2A 4C 10 (95 section 3.4). -/
theorem test_decode_respSg :
    decode (.response .stallGuardLevel) [0x2A, 0x4C, 0x10] = .ok (.respSg 169 0 0xC1) := by decide
/-- R95: `10101 01011 11 01110111`: 0xAAF77 (ignored bits 9..8 set). -/
theorem test_decode_respSgcs :
    decode (.response .stallGuardAndCurrent) [0xAA, 0xF7, 0x70] = .ok (.respSgcs 21 11 3 0x77) := by decide
/-- R101: `01x` selects no register; R97: a reserved bit; R81: padding; R67: three bytes. -/
theorem test_decode_refuses :
    decode (.driverWord true) [0x04, 0x00, 0x00] = .error .noSuchRegister ∧
      decode (.driverWord false) [0x0A, 0x00, 0x10] = .error .reservedBitSet ∧
      decode (.driverWord false) [0x00, 0x04, 0x00] = .error .reservedBitSet ∧
      decode .txFrame [0x10, 0x00, 0x00] = .error .paddingNotZero ∧ decode .rxFrame [0x12] = .error .notThreeBytes := by
  decide
/-- The table's numbering: a 20-bit word, a 24-bit frame. -/
theorem test_decodeTableWord :
    decodeTableWord 20 0x00104 = some (.drvctrlSd 0 1 4) ∧ decodeTableWord 20 0x34A3C = some (.drvctrlSpi 1 0xA5 0 0x3C) ∧
      decodeTableWord 20 0x901B4 = some (.chopconf 2 0 0 0 3 3 4) ∧ decodeTableWord 24 0x123456 = some (.rxframe 0x12345 6) ∧
      decodeTableWord 24 0x040000 = some (.txframe 0x40000) := by decide
/-- The fetched row runs (log 3): CHOPCONF's word is 0x901B4 (95 section 3.3). -/
theorem test_fetch_runs_row :
    (afterStep (State.reset.withFetchWord 20 0x901B4)).result = .word 0x901B4 := by rfl

/-! ## Formats and codec -/

/-- R81, 95 S2. -/
theorem test_txframe : (after (.txframe 0x901B4) s0).result = .frame 0x09 0x01 0xB4 := by decide
/-- R82, 95 S3. -/
theorem test_rxframe : (after (.rxframe 0x12345 6) s0).result = .word 0x12345 := by decide
/-- 95 section 3.3, the maxima of each layout. -/
theorem test_drvctrlSd_word : (after (.drvctrlSd 1 1 15) s0).result = .word 0x0030F := by decide
theorem test_drvctrlSpi_word : (after (.drvctrlSpi 0 0x80 1 1) s0).result = .word 0x10101 := by decide
theorem test_chopconf_word : (after (.chopconf 2 0 0 0 3 3 4) s0).result = .word 0x901B4 := by decide
theorem test_smarten_word : (after (.smarten 1 3 15 3 15) s0).result = .word 0xAEF6F := by decide
theorem test_sgcsconf_word : (after (.sgcsconf 1 0x7F 0x1F) s0).result = .word 0xD7F1F := by decide
theorem test_drvconf_word : (after (.drvconf 1 3 3 1 3 1 1 3) s0).result = .word 0xFF7F0 := by decide
/-- 95 section 3.4, resp 0x2A4C1. -/
theorem test_respPos : (after (.respPos 169 0 0xC1) s0).result = .status ⟨.position, 169, 0, 0, 0xC1⟩ := by decide
theorem test_respSg : (after (.respSg 169 0 0xC1) s0).result = .status ⟨.stallGuardLevel, 0, 169, 0, 0xC1⟩ := by decide
theorem test_respSgcs :
    (after (.respSgcs 5 9 0 0xC1) s0).result = .status ⟨.stallGuardAndCurrent, 0, 5, 9, 0xC1⟩ := by decide
/-- 95 section 3.1. -/
theorem test_pack : packBytes 0xEF000 = (0x0E, 0xF0, 0x00) ∧ packBytes 0xFFFFF = (0x0F, 0xFF, 0xFF) := by decide
/-- 95 section 3.1. -/
theorem test_unpack :
    unpackBytes 0x00 0x00 0x0F = 0 ∧ unpackBytes 0x00 0x00 0x10 = 1 ∧ unpackBytes 0x0E 0xF0 0x00 = 0x0EF00 := by decide

/-! ## Transport and driver registers -/

/-- The example of R121. -/
theorem test_xferByte :
    (after (.xferByte 0x0E) { s0 with script := [.link (.received 0x5A)] }).result = .byte 0x5A := by decide
/-- 95 section 3.2: the trace of EXCHANGE(0E, F0, 10). -/
theorem test_exchange :
    (after (.exchange 0x0E 0xF0 0x10) (answering [(0x2A, 0x4C, 0x10)] s0)).out =
      [.chipSelect true, .linkTx 0x0E, .linkTx 0xF0, .linkTx 0x10, .chipSelect false] := by decide
theorem test_exchange_result :
    (after (.exchange 0x0E 0xF0 0x10) (answering [(0x2A, 0x4C, 0x10)] s0)).result = .frame 0x2A 0x4C 0x10 := by decide
/-- 95 section 3.3: mres masked. -/
theorem test_setDrvctrlSd :
    (after (.setDrvctrlSd 0 0 0x14) (answering [(1, 2, 3)] s0)).reg.drvctrl = 0x00004 := by decide
/-- 95 section 3.3: dedge out of range; nothing is sent. -/
theorem test_setDrvctrlSd_invalid :
    after (.setDrvctrlSd 1 0xFFFFFFFF 0) s0 = { s0 with result := .code .invalidInput } := by decide
theorem test_setDrvctrlSpi :
    (after (.setDrvctrlSpi 1 0x1A5 0 0x3C) (answering [(1, 2, 3)] s0)).reg.drvctrl = 0x34A3C := by decide
theorem test_setDrvctrlSpi_invalid :
    after (.setDrvctrlSpi 0 0 3 0) s0 = { s0 with result := .code .invalidInput } := by decide
theorem test_setChopconf :
    (after (.setChopconf 7 2 3 4 16 8 16) (answering [(1, 2, 3)] s0)).reg.chopconf = 0x9A000 := by decide
theorem test_setSmarten :
    (after (.setSmarten 1 3 15 3 15) (answering [(1, 2, 3)] s0)).reg.smarten = 0xAEF6F := by decide
theorem test_setSgcsconf :
    (after (.setSgcsconf 0 0xFFFFFFFF 5) (answering [(1, 2, 3)] s0)).reg.sgcsconf = 0xC7F05 := by decide
theorem test_setDrvconf :
    (after (.setDrvconf 0 3 3 0 0 0 0 1) (answering [(1, 2, 3)] s0)).reg.drvconf = 0xEF010 := by decide
/-- 95 section 3.4, first STATUS_READ vector: the base 0xEF000. -/
theorem test_statusRead_first :
    (after (.statusRead .stallGuardLevel) (answering [(0, 0, 0), (0x2A, 0x4C, 0x10)] s0)).result =
      .status ⟨.stallGuardLevel, 0, 169, 0, 0xC1⟩ := by decide
/-- 95 section 3.4, third STATUS_READ vector: VSENSE kept, RDSEL replaced. -/
theorem test_statusRead_keeps_fields :
    (after (.statusRead .position) (answering [(0, 0, 0), (0x55, 0x48, 0x10)]
      { s0 with reg := { s0.reg with drvconf := 0xEF060 }, valid := { s0.valid with drvconf := true } })).reg.drvconf =
      0xEF040 := by decide
/-- 95 S6. -/
theorem test_demux :
    demuxResponse .default .stallGuardAndCurrent 0xABCDE = ⟨.stallGuardAndCurrent, 0, 21, 15, 0xDE⟩ ∧
      demuxResponse .default .position 0x00300 = ⟨.position, 0, 0, 0, 0⟩ := by decide
/-- 95 P1 step 1: the words of DRIVER_INIT. -/
theorem test_driverInit :
    (after .driverInit (answering [(1, 2, 3), (1, 2, 3), (1, 2, 3), (1, 2, 3), (1, 2, 3)] s0)).reg =
      ⟨0x00104, 0x901B4, 0xA8202, 0xD001F, 0xEF040⟩ := by decide
/-- 95 P5: REG[0] stays, the driver is enabled all the same. -/
theorem test_driverInit_invalid :
    let t := after .driverInit (answering [(1, 2, 3), (1, 2, 3), (1, 2, 3), (1, 2, 3)] (State.resetWith cfgP5))
    t.valid = ⟨false, true, true, true, true⟩ ∧ t.enLine = true := by decide

/-! ## Motion, handlers and state routines (95 sections 3.5 to 3.8) -/

theorem test_setDirection_ccw :
    (after (.setDirection .counterClockwise) { s0 with direction := .clockwise, dirLine := true }).dirLine = false := by
  decide
theorem test_setDirection_stopped :
    (after (.setDirection .stopped) { s0 with direction := .clockwise, dirLine := true }).dirLine = true := by decide
theorem test_stepPulse_wraps :
    (after .stepPulse { s0 with direction := .clockwise, steps := 2147483647 }).steps = -2147483648 := by decide
theorem test_stepPulse_stopped :
    let t := after .stepPulse { s0 with steps := 7 }
    t.steps = 7 ∧ t.stepLine = true := by decide
/-- The wrap of R24 is at POS_WIDTH: 4 bits hold -8 to 7. -/
theorem test_stepPulse_width :
    (after .stepPulse { s0 with cfg := { cfgT with posWidth := 4 }, direction := .clockwise, steps := 7 }).steps = -8 := by
  decide
/-- R90: another map moves MRES to bits 7..4. -/
theorem test_setter_follows_map :
    (after (.setDrvctrlSd 0 1 4) (answering [(1, 2, 3)]
      { s0 with cfg := { cfgT with regMap := { RegMap.default with mres := ⟨"MRES", 4, 4⟩ } } })).reg.drvctrl = 0x00140 := by
  decide
/-- R45 with the defaults: chip-select and enable are high where deasserted. -/
theorem test_pins : s0.csnPin = true ∧ s0.enPin = true ∧ ({ s0 with csLine := true } : State).csnPin = false := by decide
theorem test_enter :
    let t := after (.enter .home) { inState .tiltTable 57 with profileActive := true }
    t.tilt = .home ∧ t.ticks = 0 ∧ t.profileActive = false := by decide
/-- STEPS = 5000 does not trip in Home, and the uncovered branch is taken. -/
theorem test_tick_home_exempt :
    let t := after .tick { inState .home 0 with steps := 5000, direction := .clockwise }
    t.tilt = .home ∧ t.ticks = 1 ∧ t.direction = .counterClockwise ∧ t.tmrPeriod = 1000 := by decide
/-- STEPS = -204 trips in TestDelay, -203 does not. -/
theorem test_tick_limiter :
    (after .tick { inState .testDelay 1 with steps := -204 }).tilt = .home ∧
      (after .tick { inState .testDelay 1 with steps := -203 }).ticks = 2 := by decide
theorem test_initializeTick :
    (after .initializeTick
      (answering [(1, 2, 3), (1, 2, 3), (1, 2, 3), (1, 2, 3), (1, 2, 3)] (inState .initial 1))).tilt = .home := by
  decide
/-- 95 P1 step 2. -/
theorem test_homeTick_covered :
    let t := after .homeTick { inState .home 1 with homeIn := true }
    t.direction = .clockwise ∧ t.dirLine = true ∧ t.tmrRun = true := by decide
/-- 95 P1 step 6: one status read, still in TestDelay. -/
theorem test_testdelayTick_reads :
    let t := after .testdelayTick (answering [(0x55, 0x48, 0x10), (0x55, 0x48, 0x10)] (inState .testDelay 1))
    t.tilt = .testDelay ∧ t.out.getLast? = some (.telemetry 341 0 0 0x81) := by decide
theorem test_testdelayTick_leaves : (after .testdelayTick (inState .testDelay 3)).tilt = .tiltTable := by decide
theorem test_tilttableTick_starts :
    let t := after .tilttableTick { inState .tiltTable 1 with sweepDir := .counterClockwise }
    t.direction = .counterClockwise ∧ t.sweepDir = .clockwise ∧ t.tmrPeriod = 400 ∧ t.profileActive = true := by decide
theorem test_tilttableTick_reenters : (after .tilttableTick (inState .tiltTable 3)).ticks = 0 := by decide
theorem test_testTickCw_starts :
    let t := after .testTickCw (inState .testClockwise 1)
    t.enLine = true ∧ t.tmrPeriod = 500 ∧ t.direction = .clockwise ∧ t.tilt = .testClockwise := by decide
theorem test_testTickCw_ends :
    let t := after .testTickCw { inState .testClockwise 3 with enLine := true }
    t.enLine = false ∧ t.tilt = .testCounterClockwise := by decide
theorem test_testTickCcw_starts :
    let t := after .testTickCcw { inState .testCounterClockwise 1 with dirLine := true }
    t.enLine = true ∧ t.direction = .counterClockwise ∧ t.dirLine = false := by decide
theorem test_testTickCcw_ends :
    (after .testTickCcw (inState .testCounterClockwise 3)).tilt = .testClockwise := by decide
/-- The third expiry of the sweep of 95 section 3.7, and the fourth, which ends it. -/
theorem test_stepExpiry_sweep :
    let t := after .stepExpiry { inState .tiltTable 2 with
      profileActive := true, profileIdx := 2, direction := .clockwise, steps := 2, tmrPeriod := 300 }
    t.profileIdx = 3 ∧ t.steps = 3 ∧ t.tmrPeriod = 400 ∧ t.profileActive = true := by decide
theorem test_stepExpiry_sweep_ends :
    let t := after .stepExpiry { inState .tiltTable 2 with
      profileActive := true, profileIdx := 3, direction := .clockwise, steps := 3, tmrPeriod := 400 }
    t.profileIdx = 4 ∧ t.tmrPeriod = 400 ∧ t.profileActive = false := by decide
theorem test_homeEdge_home :
    let t := after .homeEdge { inState .home 4 with direction := .clockwise, steps := 37 }
    t.steps = 0 ∧ t.tilt = .testDelay ∧ t.ticks = 0 := by decide
theorem test_homeEdge_far :
    let t := after .homeEdge { inState .home 4 with direction := .clockwise, steps := -77, homeIn := true }
    t.steps = -250 ∧ t.tilt = .home ∧ t.ticks = 4 := by decide
/-- R242, 92 D26: Stopped gives no reconciliation, with the flag at either level. -/
theorem test_homeEdge_stopped :
    (after .homeEdge { inState .home 4 with steps := 7, homeIn := true }).steps = 7 ∧
      (after .homeEdge { inState .home 4 with steps := 7 }).tilt = .home := by decide
theorem test_stallEdge : (after .stallEdge s0).out = [.debug] := by decide

/-! ## One state for the hypotheses of each statement, one for each clause -/

/-- A link ready for an exchange, no event pending. -/
theorem ready (rs : List (Byte × Byte × Byte)) (s : State) (h : s.linkReady) : (answering rs s).linkReady := h

theorem ready_s0 : s0.linkReady := ⟨rfl, rfl, rfl, rfl⟩

theorem witness_ByteTransferCompletes :
    let s := { s0 with script := [.link (.received 0x5A), .event .tickEv] }
    s.linkReady ∧ s.script = .link (.received 0x5A) :: [.event .tickEv] := ⟨ready_s0, rfl⟩

theorem witness_ExchangeCompletes :
    (answering [(1, 2, 3)] s0).linkReady ∧ (answering [(1, 2, 3)] s0).script = exchangeMoves 1 2 3 ++ [] :=
  ⟨ready_s0, rfl⟩

theorem witness_ExchangeHoldsChipSelectWhileBusy :
    let s := { s0 with script := [.link (.received 1), .link .elapsed, .link (.received 2), .link .elapsed,
      .link (.bsy true), .link (.received 3)] }
    s.linkReady ∧ s.script = [.link (.received 1), .link .elapsed, .link (.received 2), .link .elapsed,
      .link (.bsy true), .link (.received 3)] := ⟨ready_s0, rfl⟩

/-- An exchange held at its first receive, with a move of the block next. -/
def stuck : State :=
  { s0 with csLine := true, tasks := [⟨[.wait .rxne, .recv .first], Received.none⟩], script := [.block .tick] }

/-- The common hypotheses and the first clause's. -/
theorem witness_StuckWait_idle :
    stuck.port = none ∧ stuck.resetHeld = false ∧
      stuck.tasks = ⟨.wait .rxne :: [.recv .first], Received.none⟩ :: [] ∧ stuck.link.meets .rxne = false ∧
      stuck.script = .block .tick :: [] ∧ (∀ a m, ([] : List Move) ≠ .link a :: m) ∧ stuck.pend.high = false :=
  ⟨rfl, rfl, rfl, rfl, rfl, by simp, rfl⟩

/-- The second clause: a home edge is pending. -/
theorem witness_StuckWait_preempted :
    let s := { stuck with pend := { stuck.pend with home := true } }
    s.port = none ∧ s.resetHeld = false ∧ s.tasks = ⟨.wait .rxne :: [.recv .first], Received.none⟩ :: [] ∧
      s.link.meets .rxne = false ∧ s.script = .block .tick :: [] ∧ (∀ a m, ([] : List Move) ≠ .link a :: m) ∧
      s.pend.high = true := ⟨rfl, rfl, rfl, rfl, rfl, by simp, rfl⟩

/-- The hypotheses that every setter, on a prompt link, and the two bit fields share; the map is the default one. -/
theorem witness_setters_valid :
    (answering [(1, 2, 3)] s0).cfg.regMap = .default ∧ (answering [(1, 2, 3)] s0).cfg.respMap = .default ∧
    (answering [(1, 2, 3)] s0).linkReady ∧ (answering [(1, 2, 3)] s0).script = answerMoves (1, 2, 3) ++ [] ∧
      ((1 : Word32) = 0 ∨ (1 : Word32) = 1) ∧ ((0 : Word32) = 0 ∨ (0 : Word32) = 1) :=
  ⟨rfl, rfl, ready_s0, rfl, by decide, by decide⟩

/-- The refused clause of SET_DRVCTRL at the values next to 0 and 1. -/
theorem witness_setters_invalid :
    ¬(((2 : Word32) = 0 ∨ (2 : Word32) = 1) ∧ ((1 : Word32) = 0 ∨ (1 : Word32) = 1)) ∧
      ¬(((1 : Word32) = 0 ∨ (1 : Word32) = 1) ∧ ((0xFFFFFFFF : Word32) = 0 ∨ (0xFFFFFFFF : Word32) = 1)) := by decide

/-- What is left of SET_SGCSCONF at the wait of its last byte. -/
def setterRest : List Micro :=
  [.wait .rxne, .recv .third, .wait .idle, .chipSelect false, .guard .transaction, .commit .sgcsconf 0xC0505, .returnCode .ok]

/-- A setter with valid arguments, and a state where one is held at its last byte, and at its last delay. -/
theorem witness_CacheWrittenOnlyAfterExchange :
    argsValid .drvctrlSpi [1, 0x1A5, 0, 0x3C] = true ∧ argsValid .sgcsconf [0, 0x85, 0x25] = true ∧
      (let s := { s0 with csLine := true, tasks := [⟨setterRest, ⟨1, 2, 0⟩⟩] }
       setterRest <:+ setterBody s.cfg.regMap .sgcsconf [0, 0x85, 0x25] ++ [.returnCode .ok] ∧
         [.commit .sgcsconf (s.cfg.regMap.word .sgcsconf [0, 0x85, 0x25]), .returnCode .ok] <:+ setterRest ∧
         .chipSelect false ∈ setterRest) ∧
      (let s := { s0 with tasks := [⟨setterRest.drop 4, ⟨1, 2, 3⟩⟩] }
       setterRest.drop 4 <:+ setterBody s.cfg.regMap .sgcsconf [0, 0x85, 0x25] ++ [.returnCode .ok] ∧
         [.commit .sgcsconf (s.cfg.regMap.word .sgcsconf [0, 0x85, 0x25]), .returnCode .ok] <:+ setterRest.drop 4 ∧
         s.csLine = false) := by decide

/-- A state where DRIVER_INIT is held at its fourth setter, alone and in INITIALIZE_TICK. -/
theorem witness_CacheWritten_driverInit :
    (driverInitPlan cfgT).drop 60 <:+ driverInitPlan cfgT ∧
      (driverInitPlan cfgT ++ [Micro.enter .home]).drop 60 <:+ driverInitPlan cfgT ++ [Micro.enter .home] ∧
      Micro.commit .drvconf 0xEF040 ∈ (driverInitPlan cfgT).drop 60 := by
  exact ⟨List.drop_suffix _ _, List.drop_suffix _ _, by decide⟩

/-- Tick 1 of TestDelay, and a status read held in its second exchange, alone and in TESTDELAY_TICK. -/
theorem witness_CacheWritten_statusRead :
    (inState .testDelay 1).ticks = 1 ∧
      (statusReadPlan .position 0xEF000 ++ [Micro.returnStatus .position]).drop 25 <:+
        statusReadPlan .position 0xEF000 ++ [Micro.returnStatus .position] ∧
      (statusReadPlan .position 0xEF000 ++ [Micro.testDelayExit]).drop 25 <:+
        statusReadPlan .position 0xEF000 ++ [Micro.testDelayExit] ∧
      Micro.telemetry .position ∈ (statusReadPlan .position 0xEF000).drop 25 := by
  exact ⟨rfl, List.drop_suffix _ _, List.drop_suffix _ _, by decide⟩

/-- With no answer from the link, TESTDELAY_TICK on tick 1 is held before its commit and its exit test (R197). -/
theorem test_testdelayTick_held :
    let t := after .testdelayTick { inState .testDelay 1 with cfg := { cfgT with testDelayTicks := 1 }, script := [.block .tick] }
    t.tilt = .testDelay ∧ t.valid.drvconf = false ∧ t.tasks.length = 1 := by decide

theorem witness_FieldsRoundTripAfterMasking :
    RegMap.default.wf = true ∧ [(0 : Word32), 0x85, 0x25].length = (RegMap.default.fields .sgcsconf).length ∧
      (⟨"SGT", 8, 7⟩, 0x85) ∈ (RegMap.default.fields .sgcsconf).zip [0, 0x85, 0x25] := by decide

/-- A byte is there for an exchange held at its first receive; the common hypotheses of the line-by-line part. -/
theorem witness_HeldOperationGoesOn :
    (let s := { stuck with link := { stuck.link with rxne := true, rx := 7 } }
     s.port = none ∧ s.resetHeld = false ∧ s.pend.high = false ∧ s.link.meets .rxne = true) ∧
    stuck.link.meets .rxne = false ∧ LinkAction.txe true ≠ .elapsed ∧ (∀ a l, ([] : List Move) ≠ .link a :: l) ∧
    (∀ a l, [Move.event .tickEv] ≠ .link a :: l) := ⟨⟨rfl, rfl, rfl, rfl⟩, rfl, by simp, by simp, by simp⟩

/-- An exchange that is held at every stop (the second part), and what its first line of steps comes to. -/
theorem witness_HeldOperationGoesOn_exchange :
    let s := { s0 with script := ((exchangeMoves 1 2 3).flatMap fun m => [.block .step, m]) ++ [] }
    s.linkReady ∧ s.port = none ∧ s.resetHeld = false ∧
      (stepsFrom 6 (after (.exchange 0x0E 0xF0 0x10) s)).map State.result = some (.frame 1 2 3) :=
  ⟨ready_s0, rfl, rfl, by decide⟩

/-- Every move of the link, outside reset and inside; a delay's end with an operation at a delay and without one. -/
theorem witness_LinkMovesSetPorts :
    (∀ a ∈ [LinkAction.txe false, .bsy true, .received 7, .elapsed],
      let s := { s0 with script := [.link a] }
      (s.port = none ∨ s.resetHeld = true) ∧ s.script = .link a :: []) ∧
    (let s := { s0 with resetHeld := true, port := some (.op .stepPulse), script := [.link .elapsed] }
     (s.port = none ∨ s.resetHeld = true) ∧ s.script = .link .elapsed :: []) ∧
    (let s := { s0 with tasks := [⟨[.guard .byte, .returnByte], Received.none⟩] }
     s.tasks = ⟨.guard .byte :: [.returnByte], Received.none⟩ :: []) ∧ s0.tasks = [] := by decide

theorem witness_OutputPinsFollowRegisters :
    s0.csLine = false ∧ ({ s0 with csLine := true } : State).csLine = true ∧ s0.enLine = false ∧
      ({ s0 with enLine := true } : State).enLine = true ∧ s0.cfg = s0.cfg.withDefaults := by decide

theorem witness_StatusReadCompletes :
    (answering [(0, 0, 0), (0x2A, 0x4C, 0x10)] s0).linkReady ∧
      (answering [(0, 0, 0), (0x2A, 0x4C, 0x10)] s0).script =
        answerMoves (0, 0, 0) ++ answerMoves (0x2A, 0x4C, 0x10) ++ [] := ⟨ready_s0, rfl⟩

/-- DRIVER_INIT and INITIALIZE_TICK, valid INIT. -/
theorem witness_DriverInit_valid :
    let r : Byte × Byte × Byte := (1, 2, 3)
    let s := answering [r, r, r, r, r] s0
    s.linkReady ∧ isBit s.cfg.init.intpol = true ∧ isBit s.cfg.init.dedge = true ∧
      s.script = answerMoves r ++ answerMoves r ++ answerMoves r ++ answerMoves r ++ answerMoves r ++ [] :=
  ⟨ready_s0, rfl, rfl, rfl⟩

/-- DRIVER_INIT and INITIALIZE_TICK, INIT.dedge = 2. -/
theorem witness_DriverInit_invalid :
    let r : Byte × Byte × Byte := (1, 2, 3)
    let s := answering [r, r, r, r] (State.resetWith cfgP5)
    s.linkReady ∧ ¬(isBit s.cfg.init.intpol = true ∧ isBit s.cfg.init.dedge = true) ∧
      s.script = answerMoves r ++ answerMoves r ++ answerMoves r ++ answerMoves r ++ [] :=
  ⟨⟨rfl, rfl, rfl, rfl⟩, by decide, rfl⟩

/-- The far end of the range: 2^31 - 2 and one Clockwise pulse; and a count that fits, while Stopped. -/
theorem witness_PulseOrderDoesNotMatter :
    let s := { s0 with steps := 2147483646 }
    let moved : Int := List.count Turn.clockwise [Turn.clockwise] - List.count Turn.counterClockwise [Turn.clockwise]
    s.cfg.holdsSteps (s.steps + moved) ∧ s.StepsFit ∧ s.direction = .stopped :=
  ⟨by constructor <;> decide, by constructor <;> decide, rfl⟩

theorem witness_cfgT_wf : cfgT.wf = true := by decide

theorem stepAngle_cfgT : stepAngle cfgT = Real.pi / 6400 := by
  simp only [stepAngle, cfgT]
  push_cast
  ring

theorem angle_cfgT (n : Int) : angleOf cfgT n = n * Real.pi / 6400 := by
  simp only [angleOf, cfgT]
  push_cast
  ring

/-- The thresholds of CFG-T are those of 0.5 rad and -0.1 rad (95 section 1). -/
theorem witness_ExactThresholds : cfgT.ExactThresholds (1 / 2) (-1 / 10) := by
  have h1 := Real.pi_gt_d4
  have h2 := Real.pi_lt_d4
  have hp := Real.pi_pos
  constructor
  · rw [stepAngle_cfgT, eq_comm, Int.floor_eq_iff]
    constructor
    · rw [le_div_iff₀ (by positivity)]
      norm_num [cfgT]
      linarith
    · rw [div_lt_iff₀ (by positivity)]
      norm_num [cfgT]
      linarith
  · rw [stepAngle_cfgT, eq_comm, Int.ceil_eq_iff]
    constructor
    · rw [lt_div_iff₀ (by positivity)]
      norm_num [cfgT]
      linarith
    · rw [div_le_iff₀ (by positivity)]
      norm_num [cfgT]
      linarith

/-- The thresholds of CFG-T stand for the exact angle with these bounds. -/
theorem witness_LimitsFor : cfgT.LimitsFor (angleOf cfgT) (1 / 2) (-1 / 10) := by
  have h1 := Real.pi_gt_d4
  have h2 := Real.pi_lt_d4
  intro n _
  rw [angle_cfgT]
  constructor
  · constructor
    · intro h
      have : (1019 : ℝ) ≤ n := by exact_mod_cast h
      nlinarith
    · intro h
      by_contra hn
      have : (n : ℝ) ≤ 1018 := by exact_mod_cast not_lt.mp hn
      nlinarith
  · constructor
    · intro h
      have : (n : ℝ) ≤ -204 := by exact_mod_cast Int.le_sub_one_of_lt h
      nlinarith
    · intro h
      by_contra hn
      have : (-203 : ℝ) ≤ n := by exact_mod_cast not_lt.mp hn
      nlinarith

/-- The exact angle is a non-decreasing one. -/
theorem witness_monotone : Monotone (angleOf cfgT) := by
  intro m n h
  have : (m : ℝ) ≤ n := by exact_mod_cast h
  rw [angle_cfgT, angle_cfgT]
  have := Real.pi_pos
  nlinarith

/-- In TiltTable with a count. -/
def tilted (n : Int) : State := { inState .tiltTable 5 with steps := n }

/-- The limiter at the first counts that trip, 1019 and -204, and the last that do not, 1018 and -203. -/
theorem witness_LimiterForcesHome :
    (tilted 1019).StepsFit ∧ (tilted 1018).StepsFit ∧ (tilted (-203)).StepsFit ∧ (tilted (-204)).StepsFit ∧
      (∀ n, (tilted n).cfg.LimitsFor (angleOf cfgT) (1 / 2) (-1 / 10) ∧ (tilted n).tilt = .tiltTable ∧
        routineOf (tilted n).tilt = some .tilttableTick) ∧
      (1 / 2 : ℝ) < angleOf cfgT (tilted 1019).steps ∧ angleOf cfgT (tilted (-204)).steps < (-1 / 10 : ℝ) ∧
      ((-1 / 10 : ℝ) ≤ angleOf cfgT (tilted 1018).steps ∧ angleOf cfgT (tilted 1018).steps ≤ 1 / 2) := by
  have h1 := Real.pi_gt_d4
  have h2 := Real.pi_lt_d4
  refine ⟨?_, ?_, ?_, ?_, fun n => ⟨witness_LimitsFor, rfl, rfl⟩, ?_, ?_, ?_⟩
  iterate 4 constructor <;> decide
  all_goals
    simp only [angle_cfgT, tilted]
    push_cast
    first | linarith | constructor <;> linarith

/-- The limiter is not asked in Initialize and Home (R190). -/
theorem witness_LimiterForcesHome_exempt :
    routineOf s0.tilt = some .initializeTick ∧ s0.tilt = .initial ∧
      routineOf (inState .home 0).tilt = some .homeTick ∧ (inState .home 0).tilt = .home := by decide

/-- The limiter in the two test states, by the integer test. -/
theorem witness_LimiterForcesHome_test_states :
    ({ inState .testClockwise 1 with steps := 1019 } : State).outOfBounds = true ∧
      ({ inState .testCounterClockwise 1 with steps := -204 } : State).outOfBounds = true := by decide

theorem witness_ErrorIsAbsorbing : (inState .error 0).tilt = .error := rfl

/-- TICK at the bounds themselves, at the saturated count, and in the states the limiter leaves out. -/
theorem witness_TickCountsThenDispatches :
    (let s := { inState .tiltTable 0xFFFFFFFF with steps := 1018 }
     routineOf s.tilt = some .tilttableTick ∧ s.cfg.lowerSteps ≤ s.steps ∧ s.steps ≤ s.cfg.upperSteps) ∧
    (let s := { inState .testDelay 0xFFFFFFFE with steps := -203 }
     routineOf s.tilt = some .testdelayTick ∧ s.cfg.lowerSteps ≤ s.steps ∧ s.steps ≤ s.cfg.upperSteps) ∧
    (let s := { inState .home 0 with steps := 5000 }
     routineOf s.tilt = some .homeTick ∧ s.tilt = .home) ∧
    (routineOf s0.tilt = some .initializeTick ∧ s0.tilt = .initial) := by decide

/-- The three clauses of HOME_TICK. -/
theorem witness_HomeTickStartsHoming :
    (inState .home 1).ticks = 1 ∧ (inState .home 2).ticks ≠ 1 ∧ (inState .home 0).ticks ≠ 1 ∧
      (inState .home 1).cfg.homeDir = HomeDirTable.default := by decide

theorem witness_TestDelay_later : (inState .testDelay 2).ticks ≠ 1 ∧ (inState .testDelay 3).ticks ≠ 1 := by decide

theorem witness_TestDelay_first :
    let s := answering [(0, 0, 0), (0x55, 0x48, 0x10)] (inState .testDelay 1)
    s.ticks = 1 ∧ s.linkReady ∧ s.script = answerMoves (0, 0, 0) ++ answerMoves (0x55, 0x48, 0x10) ++ [] :=
  ⟨rfl, ready_s0, rfl⟩

/-- The clauses of TILTTABLE_TICK: first entry 1, first entry 0, no entry, an active sweep, no sweep. -/
theorem witness_TiltTable :
    (let s := { inState .tiltTable 1 with cfg := { cfgT with profile := [1] } }
     s.ticks = 1 ∧ s.cfg.profile.head? = some 1 ∧ 0 < (1 : Word32).toInt) ∧
    (let s := { inState .tiltTable 1 with cfg := { cfgT with profile := [0, 5] } }
     s.ticks = 1 ∧ s.cfg.profile.head? = some 0 ∧ (0 : Word32).toInt ≤ 0) ∧
    (let s := { inState .tiltTable 1 with cfg := { cfgT with profile := [] } }
     s.ticks = 1 ∧ s.cfg.profile.head? = none) ∧
    (let s := { inState .tiltTable 2 with profileActive := true }
     s.ticks ≠ 1 ∧ s.profileActive = true) ∧
    (inState .tiltTable 2).ticks ≠ 1 ∧ (inState .tiltTable 2).profileActive = false := by decide

/-- The clauses of TEST_TICK at the budget's edge, on the first tick and later. -/
theorem witness_TestTicksRunAndSwitch :
    (inState .testClockwise 2).ticks.toNat < (inState .testClockwise 2).cfg.testTickBudget ∧
      (inState .testClockwise 3).cfg.testTickBudget ≤ (inState .testClockwise 3).ticks.toNat ∧
      (inState .testCounterClockwise 1).ticks.toNat < (inState .testCounterClockwise 1).cfg.testTickBudget ∧
      (let s := { inState .testCounterClockwise 1 with cfg := { cfgT with testTickBudget := 1 } }
       s.cfg.testTickBudget ≤ s.ticks.toNat) := by decide

theorem witness_StepExpiryByState :
    (inState .home 0).tilt = .home ∧ (inState .testClockwise 0).tilt = .testClockwise ∧
      (inState .testCounterClockwise 0).tilt = .testCounterClockwise ∧ s0.tilt = .initial ∧
      (inState .testDelay 0).tilt = .testDelay ∧ (inState .error 0).tilt = .error := by decide

/-- A sweep of CFG-T with this index. -/
def sweeping (idx : Word32) : State :=
  { inState .tiltTable 2 with
    profileActive := true, profileIdx := idx, direction := .clockwise, tmrRun := true, tmrPeriod := 400 }

/-- An entry follows, the end follows, a non-positive entry follows, no sweep is active. -/
theorem witness_StepExpiryAdvancesSweep :
    ((sweeping 2).tilt = .tiltTable ∧ (sweeping 2).profileActive = true ∧
      (sweeping 2).cfg.profile[((sweeping 2).profileIdx + 1).toNat]? = some 400 ∧ 0 < (400 : Word32).toInt) ∧
    ((sweeping 3).profileActive = true ∧ (sweeping 3).cfg.profile.length ≤ ((sweeping 3).profileIdx + 1).toNat) ∧
    (let s := { sweeping 0 with cfg := { cfgT with profile := [400, 0, 300] } }
     s.tilt = .tiltTable ∧ s.profileActive = true ∧ s.cfg.profile[(s.profileIdx + 1).toNat]? = some 0) ∧
    (inState .tiltTable 0).profileActive = false := by decide

theorem witness_SweepIssuesLeadingPositiveSteps :
    (sweeping 0).cfg.profile.length < 2 ^ 32 ∧ (sweeping 0).tilt = .tiltTable ∧ (sweeping 0).profileActive = true ∧
      (sweeping 0).profileIdx = 0 ∧ 0 < leadingPositive (sweeping 0).cfg.profile ∧
      (sweeping 0).cfg.profile[0]? = some (sweeping 0).tmrPeriod ∧ (sweeping 0).StepsFit :=
  ⟨by decide, rfl, rfl, rfl, by decide, rfl, by constructor <;> decide⟩

/-- Moving in a direction with the flag at a level. -/
def moving (d : Direction) (level : Bool) : State := { inState .home 4 with direction := d, homeIn := level }

/-- No offset; offset 0 in Home; another offset in Home; offset 0 in Error. -/
theorem witness_HomeEdgeReconciles :
    (moving .stopped true).cfg.reconcile.lookup .stopped true = none ∧
      ((moving .clockwise false).cfg.reconcile.lookup .clockwise false = some 0 ∧ (moving .clockwise false).tilt = .home) ∧
      ((moving .clockwise true).cfg.reconcile.lookup .clockwise true = some (-250) ∧
        ¬((moving .clockwise true).tilt = .home ∧ (-250 : Int) = 0)) ∧
      ¬((inState .error 0).tilt = .home ∧ (0 : Int) = 0) := by decide

/-- Home left Clockwise, with a table that holds the first offset beyond 32 bits there, 2^31, in a controller state. -/
def wideOffset (t : TiltState) : State :=
  { inState t 4 with
    direction := .clockwise
    cfg := { cfgT with reconcile := { cfgT.reconcile with clockwiseUncovered := some 2147483648 } } }

/-- The last clause of HOME_EDGE in Home, and the home edge of Error: the table's row is an offset that does not fit. -/
theorem witness_HomeEdge_wideOffset :
    (∀ t, (wideOffset t).cfg.reconcile.lookup (wideOffset t).direction
      ((wideOffset t).homeIn == (wideOffset t).cfg.homeCoveredLevel) = some 2147483648) ∧
    (∀ t, ¬(wideOffset t).cfg.holdsSteps 2147483648) ∧
    (wideOffset .home).tilt = .home ∧ (wideOffset .error).tilt = .error :=
  ⟨fun _ => rfl, fun _ h => absurd h.2 (show ¬(2 * 2147483648 : Int) < 2 ^ 32 by decide), rfl, rfl⟩

/-- The offsets of CFG-T fit 32 bits, the ends of that range do, and the next one does not. -/
theorem witness_HomeEdge_offsets :
    cfgT.holdsSteps 0 ∧ cfgT.holdsSteps (-250) ∧ cfgT.holdsSteps (-2147483648) ∧ ¬cfgT.holdsSteps 2147483648 ∧
      (moving .stopped true).direction = .stopped := by
  refine ⟨?_, ?_, ?_, ?_, rfl⟩
  iterate 3 constructor <;> decide
  exact fun h => absurd h.2 (by decide)

/-- The default geometry, with each of its five rows. -/
theorem witness_DefaultGeometryReanchors :
    s0.cfg.wf = true ∧ s0.cfg.reconcile = ReconcileTable.default s0.cfg.flagWidthSteps ∧
      (moving .stopped true).direction = .stopped ∧
      (moving .clockwise false).homeIn ≠ (moving .clockwise false).cfg.homeCoveredLevel ∧
      (moving .counterClockwise true).homeIn = (moving .counterClockwise true).cfg.homeCoveredLevel ∧
      (moving .clockwise true).homeIn = (moving .clockwise true).cfg.homeCoveredLevel ∧
      (moving .counterClockwise false).homeIn ≠ (moving .counterClockwise false).cfg.homeCoveredLevel := by decide

theorem witness_HomeEdgeIsIdempotent :
    exec .homeEdge (moving .clockwise false) =
      .next { moving .clockwise false with tilt := .testDelay, ticks := 0 } := rfl

/-- The three ways a row is presented. -/
theorem witness_StepRunsPresentedRow :
    (let s := { s0 with port := some (.op .stepPulse) }
     s.resetHeld = false ∧ s.port = some (.op .stepPulse)) ∧
    (let s := { s0 with port := some (.bytes [0x09, 0x01, 0xB4]) }
     s.resetHeld = false ∧ decodeAuto [0x09, 0x01, 0xB4] = .ok (.chopconf 2 0 0 0 3 3 4)) ∧
    decodeTableWord 20 0x901B4 = some (.chopconf 2 0 0 0 3 3 4) := by decide

/-- A move of the block next, with these latches and operations. -/
def selecting (p : Pending) (ts : List Task) : State :=
  { s0 with pend := p, tasks := ts, script := [.block .home] }

/-- The five clauses of selection. -/
theorem witness_StepServesByPriority :
    (let s := selecting ⟨true, true, true, false⟩ []
     s.port = none ∧ s.resetHeld = false ∧ s.script = .block .home :: [] ∧ s.pend.get .home = true ∧
       s.pend.high = true) ∧
    (let s := selecting ⟨true, false, false, false⟩ []
     s.pend.high = false ∧ s.tasks = [] ∧ s.pend.tick = true) ∧
    (let s := selecting ⟨false, false, false, false⟩ []
     s.pend.high = false ∧ s.tasks = [] ∧ s.pend.tick = false) ∧
    (let s := selecting ⟨true, false, false, false⟩ [⟨[.wait .rxne], Received.none⟩]
     s.pend.high = false ∧ s.tasks ≠ []) := by decide

/-- Every kind of event may be the next move. -/
theorem witness_EventsSetLatches :
    ∀ e ∈ [EnvEvent.tickEv, .timerExpiry, .homeLevel true, .homeLevel false, .sgLevel true, .reset true, .reset false],
      let s := { s0 with script := [.event e] }
      s.port = none ∧ s.resetHeld = false ∧ s.script = .event e :: [] := by decide

/-- Every input may move while reset is asserted; the timer is stopped then. -/
theorem witness_ResetHeldTakesNoEvents_inputs :
    ∀ e ∈ [EnvEvent.timerExpiry, .homeLevel true, .sgLevel true, .reset false],
      let s := { s0 with resetHeld := true, script := [.event e] }
      s.resetHeld = true ∧ s.script = .event e :: [] ∧ s.tmrRun = false := by decide

theorem witness_ResetHeldTakesNoEvents :
    (let s := { s0 with resetHeld := true, script := [.event .tickEv] }
     s.resetHeld = true ∧ s.script = .event .tickEv :: []) ∧
    (let s := { s0 with resetHeld := true, script := [.block .step] }
     s.resetHeld = true ∧ s.script = .block .step :: []) := by decide

/-- A row for each mode. -/
theorem witness_DecodeInvertsEncodeInMode :
    (Instr.txframe 0xEF000).wellFormedIn .txFrame = true ∧ (Instr.rxframe 0x12345 6).wellFormedIn .rxFrame = true ∧
      (Instr.drvctrlSd 0 1 4).wellFormedIn (.driverWord false) = true ∧
      (Instr.drvctrlSpi 0 0 0 4).wellFormedIn (.driverWord true) = true ∧
      (Instr.respPos 341 3 0x81).wellFormedIn (.response .position) = true ∧
      (Instr.respSg 1023 3 0xFF).wellFormedIn (.response .stallGuardLevel) = true ∧
      (Instr.respSgcs 31 31 3 0xFF).wellFormedIn (.response .stallGuardAndCurrent) = true := by decide

theorem witness_DecodeInvertsEncodeUntagged :
    (Instr.drvctrlSpi 1 0xA5 0 0x3C).wellFormed = true ∧
      encode (.drvctrlSpi 1 0xA5 0 0x3C) = some [0x03, 0x4A, 0x3C] ∧ (Instr.rxframe 0x12345 6).wellFormed = true ∧
      encode (.rxframe 0x12345 6) = some [0x12, 0x34, 0x56] := by decide

theorem witness_EncodeInvertsDecode :
    (∀ k, Format.driverWord true ≠ .response k) ∧
      decode (.driverWord true) [0x03, 0x4A, 0x3C] = .ok (.drvctrlSpi 1 0xA5 0 0x3C) := by
  refine ⟨fun k => by simp, by decide⟩

/-- A step expiry is pending in the middle of a sweep, and the block moves next: a state for the invariants. -/
def midSweep : State :=
  { sweeping 2 with
    pend := { s0.pend with step := true }
    reg := { s0.reg with drvconf := 0xEF040 }
    valid := { s0.valid with drvconf := true }
    script := [.block .step] }

/-- An exchange of the status read of TestDelay is held at its first receive: another state for the invariants. -/
def midRead : State :=
  { inState .testDelay 1 with
    csLine := true
    out := [.chipSelect true, .linkTx 0x0E]
    tasks := [⟨[.wait .rxne, .recv .first, .guard .byte, .send 0xF0, .send 0, .chipSelect false, .commit .drvconf 0xEF000,
      .testDelayExit], Received.none⟩]
    script := [.link (.received 7), .block .tick] }

theorem step_midSweep : step midSweep = .next { midSweep with
    pend := s0.pend, profileIdx := 3, stepLine := true, steps := 1, tmrPeriod := 400, script := [] } := rfl

theorem step_midRead :
    step midRead = .next { midRead with link := ⟨true, true, false, 7⟩, script := [.block .tick] } := rfl

theorem witness_ConfigurationNeverChanges : ∃ t, step midSweep = .next t := ⟨_, step_midSweep⟩

theorem witness_CachesStayFormed :
    (midSweep.cfg.mapFits = true ∧ midRead.cfg.mapFits = true ∧ cfgT.regMap = .default) ∧
    (midSweep.CachesFormed ∧ ∃ t, step midSweep = .next t) ∧ midRead.CachesFormed ∧ ∃ t, step midRead = .next t := by
  refine ⟨by decide, ⟨⟨?_, ?_⟩, _, step_midSweep⟩, ⟨?_, ?_⟩, _, step_midRead⟩
  · intro r
    cases r <;> decide
  · decide
  · intro r
    cases r <;> decide
  · decide

theorem witness_SweepStaysSound :
    midSweep.harnessFree ∧ midSweep.SweepSound ∧ ∃ t, step midSweep = .next t :=
  ⟨rfl, fun _ => ⟨rfl, by decide, by decide, 300, by decide, by decide⟩, _, step_midSweep⟩

theorem witness_FramingIsKept : midRead.harnessFree ∧ midRead.WellFramed ∧ ∃ t, step midRead = .next t :=
  ⟨rfl, ⟨.open 1, by decide, by decide, rfl⟩, _, step_midRead⟩

theorem witness_RunningTimerIsDirected :
    midSweep.harnessFree ∧ midSweep.cfg.wf = true ∧ midSweep.TurnsWhenTimed ∧ midSweep.PeriodInRange ∧
      ∃ t, step midSweep = .next t :=
  ⟨rfl, by decide, fun _ => by decide, fun _ => by decide, _, step_midSweep⟩

theorem witness_StepCountStaysInWidth : midSweep.StepsFit ∧ ∃ t, step midSweep = .next t :=
  ⟨by constructor <;> decide, _, step_midSweep⟩

theorem witness_OnlyDocumentedStatesAreReached :
    midRead.harnessFree ∧ midRead.Documented ∧ ∃ t, step midRead = .next t :=
  ⟨rfl, ⟨rfl, by decide⟩, _, step_midRead⟩

theorem witness_TransitionsFollowTheTable :
    midRead.harnessFree ∧ midRead.EntersFit ∧ ∃ t, step midRead = .next t :=
  ⟨rfl, rfl, _, step_midRead⟩

end Sys2Proof.Tests
end

section
/-! Proofs about the state of the block (spec 10_state.md): the output pins and the values reset leaves. -/

namespace Sys2Proof

/-! The defaults of R10 set both active levels low. -/

@[simp] theorem Config.withDefaults_csActiveLevel (c : Config) : c.withDefaults.csActiveLevel = false := rfl
@[simp] theorem Config.withDefaults_enActiveLevel (c : Config) : c.withDefaults.enActiveLevel = false := rfl

end Sys2Proof

namespace Sys2Proof.Machine

section OutputPins

variable (s : State)

/-! A line's pin by the level of its register (R45). -/

@[simp] theorem State.csnPin_of_asserted (h : s.csLine = true) : s.csnPin = s.cfg.csActiveLevel := by
  simp [State.csnPin, h]

@[simp] theorem State.csnPin_of_deasserted (h : s.csLine = false) : s.csnPin = !s.cfg.csActiveLevel := by
  simp [State.csnPin, h]

@[simp] theorem State.enPin_of_asserted (h : s.enLine = true) : s.enPin = s.cfg.enActiveLevel := by
  simp [State.enPin, h]

@[simp] theorem State.enPin_of_deasserted (h : s.enLine = false) : s.enPin = !s.cfg.enActiveLevel := by
  simp [State.enPin, h]

@[simp] theorem State.dirPin_eq_dirLine : s.dirPin = s.dirLine := rfl
@[simp] theorem State.stepPin_eq_stepLine : s.stepPin = s.stepLine := rfl

variable {s}

/-- An active-low chip-select pin is its register inverted. -/
theorem State.csnPin_of_activeLow (h : s.cfg.csActiveLevel = false) : s.csnPin = !s.csLine := by
  cases hline : s.csLine with
  | true => simp [hline, h]
  | false => simp [hline, h]

/-- An active-low enable pin is its register inverted. -/
theorem State.enPin_of_activeLow (h : s.cfg.enActiveLevel = false) : s.enPin = !s.enLine := by
  cases hline : s.enLine with
  | true => simp [hline, h]
  | false => simp [hline, h]

end OutputPins

/-- Settles O26: each pin by the level of its line, and both active levels are low in a configuration of defaults. -/
theorem outputPinsFollowRegisters : Obligations.OutputPinsFollowRegisters := by
  unfold Obligations.OutputPinsFollowRegisters
  intro s
  refine ⟨s.csnPin_of_asserted, s.csnPin_of_deasserted, s.enPin_of_asserted, s.enPin_of_deasserted,
    s.dirPin_eq_dirLine, s.stepPin_eq_stepLine, fun hdefaults => ?_⟩
  have hcs : s.cfg.csActiveLevel = false := by rw [hdefaults, Config.withDefaults_csActiveLevel]
  have hen : s.cfg.enActiveLevel = false := by rw [hdefaults, Config.withDefaults_enActiveLevel]
  exact ⟨State.csnPin_of_activeLow hcs, State.enPin_of_activeLow hen⟩

section ResetValues

variable (c : Config)

/-! The reset column of R20 (R53), field by field and for every configuration: an asserted reset leaves these values too.
The edge detectors start at the levels of their inputs, so that reset raises no edge. -/

@[simp] theorem State.resetWith_cfg : (State.resetWith c).cfg = c := rfl
@[simp] theorem State.resetWith_reg : (State.resetWith c).reg = ⟨0, 0, 0, 0, 0⟩ := rfl
@[simp] theorem State.resetWith_valid : (State.resetWith c).valid = ⟨false, false, false, false, false⟩ := rfl
@[simp] theorem State.resetWith_direction : (State.resetWith c).direction = .stopped := rfl
@[simp] theorem State.resetWith_steps : (State.resetWith c).steps = 0 := rfl
@[simp] theorem State.resetWith_tilt : (State.resetWith c).tilt = .initial := rfl
@[simp] theorem State.resetWith_ticks : (State.resetWith c).ticks = 0 := rfl
@[simp] theorem State.resetWith_profileIdx : (State.resetWith c).profileIdx = 0 := rfl
@[simp] theorem State.resetWith_profileActive : (State.resetWith c).profileActive = false := rfl
@[simp] theorem State.resetWith_sweepDir : (State.resetWith c).sweepDir = c.firstSweepDir := rfl
@[simp] theorem State.resetWith_tmrRun : (State.resetWith c).tmrRun = false := rfl
@[simp] theorem State.resetWith_csLine : (State.resetWith c).csLine = false := rfl
@[simp] theorem State.resetWith_enLine : (State.resetWith c).enLine = false := rfl
@[simp] theorem State.resetWith_dirLine : (State.resetWith c).dirLine = false := rfl
@[simp] theorem State.resetWith_stepLine : (State.resetWith c).stepLine = false := rfl
@[simp] theorem State.resetWith_pend : (State.resetWith c).pend = ⟨false, false, false, false⟩ := rfl
@[simp] theorem State.resetWith_tasks : (State.resetWith c).tasks = [] := rfl
theorem State.resetWith_homePrev : (State.resetWith c).homePrev = (State.resetWith c).homeIn := rfl
theorem State.resetWith_sgPrev : (State.resetWith c).sgPrev = (State.resetWith c).sgIn := rfl

end ResetValues

/-- Settles O46: the reset state is the reset column for the installed configuration. -/
theorem resetLeavesTheListedValues : Obligations.ResetLeavesTheListedValues := by
  unfold Obligations.ResetLeavesTheListedValues State.reset
  refine ⟨State.resetWith_reg _, State.resetWith_valid _, State.resetWith_direction _, State.resetWith_steps _,
    State.resetWith_tilt _, State.resetWith_ticks _, State.resetWith_profileIdx _, State.resetWith_profileActive _,
    ?sweepDirection, State.resetWith_tmrRun _, State.resetWith_csLine _, State.resetWith_enLine _,
    State.resetWith_dirLine _, State.resetWith_stepLine _, State.resetWith_pend _, State.resetWith_homePrev _,
    State.resetWith_sgPrev _, State.resetWith_tasks _⟩
  case sweepDirection => rw [State.resetWith_sweepDir, State.resetWith_cfg]

end Sys2Proof.Machine
end

section
/-! Proofs about the Datagram Codec (spec 40_codec.md): both directions are read off their containers, PACK's being the
padded word and UNPACK's the frame, each with eight zero bits behind it. -/

namespace Sys2Proof

/-- The container of a word to send is its padded frame, then eight zero bits (R110). -/
theorem packContainer_eq_append (w : Word20) : packContainer w = 0#4 ++ w ++ 0#8 := by
  have hpadded : (w.setWidth 32).extractLsb' 0 24 = 0#4 ++ w := by
    rw [← BitVec.setWidth_eq_extractLsb' (by decide), BitVec.setWidth_setWidth_of_le _ (by decide),
      BitVec.setWidth_eq_append (by decide), BitVec.cast_eq]
  unfold packContainer
  rw [BitVec.shiftLeft_eq_concat_of_lt (by decide), hpadded, BitVec.cast_eq]

/-- PACK cuts the padded frame of the word: its last byte ends where the container's zeros begin. -/
theorem packBytes_eq_slices (w : Word20) :
    packBytes w = ((0#4 ++ w).extractLsb' 16 8, (0#4 ++ w).extractLsb' 8 8, (0#4 ++ w).extractLsb' 0 8) := by
  unfold packBytes
  rw [packContainer_eq_append, BitVec.extractLsb'_append_eq_of_le (by decide : 8 ≤ 24),
    BitVec.extractLsb'_append_eq_of_le (by decide : 8 ≤ 16), BitVec.extractLsb'_append_eq_of_le (Nat.le_refl 8)]

/-- A frame is put together from its three bytes in wire order (R13). -/
theorem frame24_slices (f : BitVec 24) :
    frame24 (f.extractLsb' 16 8) (f.extractLsb' 8 8) (f.extractLsb' 0 8) = f := by
  unfold frame24
  rw [BitVec.extractLsb'_append_extractLsb'_eq_extractLsb' (by decide : 16 = 8 + 8),
    BitVec.extractLsb'_append_extractLsb'_eq_extractLsb' (by decide : 8 = 0 + 8), BitVec.extractLsb'_eq_self]

/-- The frame PACK sends is the word behind four zero bits (R81). -/
theorem frame24_packBytes (w : Word20) :
    frame24 (packBytes w).1 (packBytes w).2.1 (packBytes w).2.2 = 0#4 ++ w := by
  rw [packBytes_eq_slices, frame24_slices]

/-- The word is bits 19..0 of the frame PACK sends (R112 (b)). -/
theorem word_of_frame24_packBytes (w : Word20) :
    (frame24 (packBytes w).1 (packBytes w).2.1 (packBytes w).2.2).extractLsb' 0 20 = w := by
  rw [frame24_packBytes, BitVec.extractLsb'_append_eq_right]

theorem packBytes_injective : Function.Injective packBytes := by
  intro v w h
  rw [← word_of_frame24_packBytes v, h, word_of_frame24_packBytes w]

/-- A slice that runs from a bit of the word to the end of its frame begins with the four padding bits. -/
theorem extractLsb'_frame_top (w : Word20) {start len : Nat} (h : start + len = 20) :
    (0#4 ++ w).extractLsb' start (4 + len) = 0#4 ++ w.extractLsb' start len :=
  calc (0#4 ++ w).extractLsb' start (4 + len)
      = (0#4 ++ w).extractLsb' 20 4 ++ (0#4 ++ w).extractLsb' start len :=
        (BitVec.extractLsb'_append_extractLsb'_eq_extractLsb' h.symm).symm
    _ = 0#4 ++ w.extractLsb' start len := by
        rw [BitVec.extractLsb'_append_eq_left, BitVec.extractLsb'_append_eq_of_add_le h.le]

/-- PACK's bytes by the word's own bits: the first one carries the four padding bits (R110). -/
theorem packBytes_eq (w : Word20) :
    packBytes w = (0#4 ++ w.extractLsb' 16 4, w.extractLsb' 8 8, w.extractLsb' 0 8) := by
  have hfirst : (0#4 ++ w).extractLsb' 16 8 = 0#4 ++ w.extractLsb' 16 4 :=
    extractLsb'_frame_top w (start := 16) (len := 4) rfl
  rw [packBytes_eq_slices, hfirst, BitVec.extractLsb'_append_eq_of_add_le (by decide),
    BitVec.extractLsb'_append_eq_of_add_le (by decide)]

/-- The container of a received frame is the frame, then eight zero bits (R111). -/
theorem unpackContainer_eq_append (b0 b1 b2 : Byte) : unpackContainer b0 b1 b2 = frame24 b0 b1 b2 ++ 0#8 := rfl

/-- UNPACK answers bits 23..4 of the received frame, whatever the bytes are (R82, R111). -/
theorem unpackBytes_eq (b0 b1 b2 : Byte) : unpackBytes b0 b1 b2 = (frame24 b0 b1 b2).extractLsb' 4 20 :=
  calc unpackBytes b0 b1 b2
      = (frame24 b0 b1 b2 ++ 0#8).extractLsb' 12 20 := by
        ext k hk
        simp [unpackBytes, unpackContainer_eq_append]
    _ = (frame24 b0 b1 b2).extractLsb' 4 20 := BitVec.extractLsb'_append_eq_of_le (by decide)

/-- UNPACK is not the inverse of PACK: it takes the frame from the other end (R112 (a)). -/
theorem unpackBytes_packBytes (w : Word20) :
    unpackBytes (packBytes w).1 (packBytes w).2.1 (packBytes w).2.2 = w >>> 4 := by
  have hslice : (0#4 ++ w).extractLsb' 4 20 = 0#4 ++ w.extractLsb' 4 16 :=
    extractLsb'_frame_top w (start := 4) (len := 16) rfl
  rw [unpackBytes_eq, frame24_packBytes, hslice, BitVec.ushiftRight_eq_extractLsb'_of_lt (by decide), BitVec.cast_eq]

end Sys2Proof

namespace Sys2Proof.Machine

theorem exec_pack (w : Word20) (s : State) :
    exec (.pack w) s = .next (s.answer (.frame (packBytes w).1 (packBytes w).2.1 (packBytes w).2.2)) := rfl

theorem exec_unpack (b0 b1 b2 : Byte) (s : State) :
    exec (.unpack b0 b1 b2) s = .next (s.answer (.word (unpackBytes b0 b1 b2))) := rfl

/-- Settles O2: PACK answers the slices of the padded word, and the word is read back from its frame. -/
theorem packSplitsPaddedWord : Obligations.PackSplitsPaddedWord := by
  unfold Obligations.PackSplitsPaddedWord
  refine ⟨fun w s => ?_, fun v w h => packBytes_injective h⟩
  rw [exec_pack, packBytes_eq, State.answer]

/-- Settles O3: UNPACK is a slice of the received frame, and PACK's frame is the padded word. -/
theorem unpackTakesUpperTwentyBits : Obligations.UnpackTakesUpperTwentyBits := by
  unfold Obligations.UnpackTakesUpperTwentyBits
  refine ⟨fun b0 b1 b2 s => ?_, fun w => ⟨unpackBytes_packBytes w, word_of_frame24_packBytes w⟩⟩
  rw [exec_unpack, unpackBytes_eq, frame24, State.answer]

end Sys2Proof.Machine
end

section
/-! Proofs about the caches (spec 42_driver_registers.md): a segment of an operation makes its lines in order, so a commit
comes after the exchange that stands before it, whatever the link does. -/

namespace Sys2Proof.Machine

/-! ## The lines of an operation by what they may change -/

/-- A line of XFER_BYTE or EXCHANGE (R121, R123): it touches the link, the chip-select and nothing the caller keeps. -/
def Micro.isTransport : Micro → Bool
  | .chipSelect _ | .wait _ | .send _ | .recv _ | .guard _ => true
  | .commit _ _ | .enable _ | .enter _ | .testDelayExit | .telemetry _ => false
  | .returnByte | .returnFrame | .returnCode _ | .returnStatus _ => false

/-- A line that stands before the closing lines of DRIVER_INIT or STATUS_READ: transport, a commit, the telemetry. -/
def Micro.inBody : Micro → Bool
  | .commit _ _ | .telemetry _ => true
  | m => m.isTransport

theorem Micro.inBody_of_isTransport {m : Micro} (h : m.isTransport = true) : m.inBody = true := by
  cases m with
  | commit r w | telemetry k => rfl
  | _ => exact h

/-- The level of CS_LINE after a line. -/
def Micro.chipSelectLevel (level : Bool) : Micro → Bool
  | .chipSelect b => b
  | _ => level

/-- Wherever these lines assert CS_LINE, they deassert it later. -/
def ReleasesChipSelect (l : List Micro) : Prop :=
  ∀ before after, l = before ++ .chipSelect true :: after → .chipSelect false ∈ after

theorem ReleasesChipSelect.of_suffix {l p : List Micro} (h : ReleasesChipSelect l) (hp : p <:+ l) :
    ReleasesChipSelect p := by
  obtain ⟨q, rfl⟩ := hp
  intro before after e
  exact h (q ++ before) after (by simp [e])

/-- After any part of such lines CS_LINE is deasserted, or its deassertion is still to come. -/
theorem ReleasesChipSelect.released_or_pending {todo : List Micro} :
    ∀ {did : List Micro} {level : Bool}, ReleasesChipSelect (did ++ todo) →
      (level = false ∨ .chipSelect false ∈ did ++ todo) →
      did.foldl Micro.chipSelectLevel level = false ∨ .chipSelect false ∈ todo
  | [], _, _, hl => hl
  | m :: did, level, h, hl => by
    have htail : ReleasesChipSelect (did ++ todo) := h.of_suffix (List.suffix_cons m _)
    refine htail.released_or_pending ?_
    cases m with
    | chipSelect b =>
      cases b with
      | false => exact .inl rfl
      | true => exact .inr (h [] (did ++ todo) rfl)
    | _ => simpa [Micro.chipSelectLevel] using hl

/-- After all of such lines CS_LINE is deasserted. -/
theorem ReleasesChipSelect.released {l : List Micro} {level : Bool} (h : ReleasesChipSelect l)
    (hl : level = false ∨ .chipSelect false ∈ l) : l.foldl Micro.chipSelectLevel level = false := by
  rw [← List.append_nil l] at h hl
  exact (h.released_or_pending hl).resolve_right List.not_mem_nil

/-! ## The caches after some lines -/

theorem State.committed_append (a b : List Micro) (s : State) : s.committed (a ++ b) = (s.committed a).committed b := by
  induction a generalizing s with
  | nil => rfl
  | cons m a ih => cases m <;> exact ih _

/-- Lines without a commit leave the caches alone. -/
theorem State.committed_of_no_commit {l : List Micro} (h : ∀ r w, .commit r w ∉ l) (s : State) : s.committed l = s := by
  induction l with
  | nil => rfl
  | cons m l ih =>
    have htail : s.committed l = s := ih fun r w hm => h r w (.tail m hm)
    cases m with
    | commit r w => exact absurd List.mem_cons_self (h r w)
    | _ => exact htail

/-! ## The lines of a plan -/

theorem isTransport_of_mem_sendWordPlan {w : Word20} {m : Micro} (h : m ∈ sendWordPlan w) : m.isTransport = true :=
  List.all_eq_true.mp (show (sendWordPlan w).all Micro.isTransport = true from rfl) m h

theorem commit_notMem_sendWordPlan (w : Word20) (r : RegId) (v : Word20) : .commit r v ∉ sendWordPlan w :=
  fun h => Bool.false_ne_true (isTransport_of_mem_sendWordPlan h)

theorem chipSelect_false_mem_sendWordPlan (w : Word20) : .chipSelect false ∈ sendWordPlan w := by
  simp [sendWordPlan, exchangePlan]

/-- EXCHANGE asserts CS_LINE in its first line only and deasserts it before its last delay (R123, R124). -/
theorem releasesChipSelect_sendWordPlan (w : Word20) : ReleasesChipSelect (sendWordPlan w) := by
  intro before after h
  have honce : .chipSelect true ∉ (sendWordPlan w).tail := by simp [sendWordPlan, exchangePlan, xferPlan]
  have hlater : .chipSelect false ∈ (sendWordPlan w).tail := by simp [sendWordPlan, exchangePlan]
  have hfirst : [] ++ .chipSelect true :: (sendWordPlan w).tail = before ++ .chipSelect true :: after := h
  obtain ⟨-, -, rfl⟩ := (List.append_cons_inj_of_notMem List.not_mem_nil honce).mp hfirst
  exact hlater

/-- A commit that follows an exchange is the commit of these lines, where the lines after it have no other. -/
theorem commit_eq_of_sendWordPlan_split {w w' : Word20} {r r' : RegId} {before after tail : List Micro}
    (htail : .commit r' w' ∉ tail) (h : sendWordPlan w ++ .commit r w :: tail = before ++ .commit r' w' :: after) :
    sendWordPlan w = before ∧ (r = r' ∧ w = w') ∧ tail = after := by
  simpa using (List.append_cons_inj_of_notMem (commit_notMem_sendWordPlan w r' w') htail).mp h

/-! ## What the lines done in a segment leave -/

/-- From `s`, with `below` standing under the operation, these lines of a body are done: the caches have their commits,
CS_LINE the level last written, and what the closing lines write is as it was. -/
structure RanBody (did : List Micro) (below : List Task) (s u : State) : Prop where
  cfg : u.cfg = s.cfg
  reg : u.reg = (s.committed did).reg
  valid : u.valid = (s.committed did).valid
  csLine : u.csLine = did.foldl Micro.chipSelectLevel s.csLine
  enLine : u.enLine = s.enLine
  tilt : u.tilt = s.tilt
  ticks : u.ticks = s.ticks
  profileActive : u.profileActive = s.profileActive
  result : u.result = s.result
  tasks : u.tasks = below

section Segments

variable {did : List Micro} {below : List Task} {s u u' : State} {rx rx' : Received}

/-- Nothing is done where an operation is called. -/
theorem RanBody.of_call : RanBody [] s.tasks s s := by constructor <;> rfl

/-- Nothing is done where an operation goes on. -/
theorem RanBody.of_resume : RanBody [] below s { s with tasks := below } := by constructor <;> rfl

/-- A line that is held changes the link and the moves left only. -/
theorem RanBody.held {m : Micro} (h : RanBody did below s u) (hm : m.attempt rx u = .held u') : RanBody did below s u' := by
  obtain ⟨-, l, ms, rfl⟩ := Micro.attempt_held hm
  exact { h with }

/-- One more line that makes no commit is done. -/
theorem RanBody.snoc_of_no_commit {m : Micro} (h : RanBody did below s u) (hm : ∀ r w, m ≠ .commit r w) (l : Link)
    (out : List PortEvent) (ms : List Move) :
    RanBody (did ++ [m]) below s { u with csLine := m.chipSelectLevel u.csLine, link := l, out := out, script := ms } := by
  have hcaches : s.committed (did ++ [m]) = s.committed did := by
    rw [State.committed_append, State.committed_of_no_commit]
    exact fun r w hmem => hm r w (List.mem_singleton.mp hmem).symm
  have hlevel : m.chipSelectLevel u.csLine = (did ++ [m]).foldl Micro.chipSelectLevel s.csLine := by
    rw [List.foldl_append, ← h.csLine, List.foldl_cons, List.foldl_nil]
  exact { h with reg := hcaches ▸ h.reg, valid := hcaches ▸ h.valid, csLine := hlevel }

/-- One more commit is done. -/
theorem RanBody.snoc_commit (h : RanBody did below s u) (r : RegId) (w : Word20) :
    RanBody (did ++ [.commit r w]) below s (u.commit r w) := by
  have hcaches : s.committed (did ++ [.commit r w]) = (s.committed did).commit r w := State.committed_append _ _ _
  have hlevel : u.csLine = (did ++ [Micro.commit r w]).foldl Micro.chipSelectLevel s.csLine := by
    rw [List.foldl_append, ← h.csLine]
    rfl
  exact { h with
    reg := by rw [hcaches, State.commit_reg, State.commit_reg, h.reg]
    valid := by rw [hcaches, State.commit_valid, State.commit_valid, h.valid]
    csLine := hlevel }

/-- One more line of a body is done. -/
theorem RanBody.snoc {m : Micro} (h : RanBody did below s u) (hbody : m.inBody = true)
    (hm : m.attempt rx u = .done rx' u') : RanBody (did ++ [m]) below s u' := by
  have hdone := Micro.attempt_done hm
  cases m with
  | commit r w => obtain ⟨-, rfl⟩ := hdone; exact h.snoc_commit r w
  | wait w => obtain ⟨-, l, ms, -, rfl⟩ := hdone; exact h.snoc_of_no_commit (by simp) l u.out ms
  | guard g => obtain ⟨-, l, ms, rfl⟩ := hdone; exact h.snoc_of_no_commit (by simp) l u.out ms
  | chipSelect b | send t | recv slot | telemetry k =>
    obtain ⟨-, rfl⟩ := hdone
    exact h.snoc_of_no_commit (by simp) _ _ _
  | enable _ | enter _ | testDelayExit | returnByte | returnFrame | returnCode _ | returnStatus _ =>
    exact absurd hbody Bool.false_ne_true

/-- A segment of a body with its closing lines, from anywhere in the body: it is held at a line of the body, with that line
and all that follow still to come, or the whole body is done and the closing lines run. -/
theorem runMicros_body {front closing : List Micro} (hbody : ∀ m ∈ front, m.inBody = true) (h : RanBody did below s u) :
    (∃ mid m rest rx' v, front = mid ++ m :: rest ∧ RanBody (did ++ mid) below s v ∧
        runMicros (front ++ closing) rx u = v.hold (m :: rest ++ closing) rx') ∨
      ∃ rx' v, RanBody (did ++ front) below s v ∧ runMicros (front ++ closing) rx u = runMicros closing rx' v := by
  induction front generalizing did rx u with
  | nil => exact .inr ⟨rx, u, by simpa using h, rfl⟩
  | cons m front ih =>
    rw [List.cons_append, runMicros]
    cases hm : m.attempt rx u with
    | held u' => exact .inl ⟨[], m, front, rx, u', rfl, by simpa using h.held hm, rfl⟩
    | done rx' u' =>
      have hnext : RanBody (did ++ [m]) below s u' := h.snoc (hbody m List.mem_cons_self) hm
      rcases ih (fun x hx => hbody x (.tail m hx)) hnext with
        ⟨mid, m', rest, rx'', v, rfl, hran, hrun⟩ | ⟨rx'', v, hran, hrun⟩
      · exact .inl ⟨m :: mid, m', rest, rx'', v, rfl, by simpa using hran, hrun⟩
      · exact .inr ⟨rx'', v, by simpa using hran, hrun⟩

/-! ## A setter (R140, R147) -/

/-- A segment of a setter, from anywhere in its exchange. -/
theorem setterSegment_of_suffix {p : List Micro} {r : RegId} {w : Word20} (hp : p <:+ sendWordPlan w)
    (h : RanBody [] below s u) (hcs : s.csLine = false ∨ .chipSelect false ∈ p) :
    SetterSegment r w (p ++ [.commit r w, .returnCode .ok]) below s
      (runMicros (p ++ [.commit r w, .returnCode .ok]) rx u) := by
  have htransport : ∀ m ∈ p, m.isTransport = true := fun m hm => isTransport_of_mem_sendWordPlan (hp.subset hm)
  have hnoCommit : ∀ r' w', .commit r' w' ∉ p := fun r' w' hm => commit_notMem_sendWordPlan w r' w' (hp.subset hm)
  have hreleases : ReleasesChipSelect p := (releasesChipSelect_sendWordPlan w).of_suffix hp
  rcases runMicros_body (closing := [.commit r w, .returnCode .ok]) (rx := rx)
      (fun m hm => Micro.inBody_of_isTransport (htransport m hm)) h with
    ⟨mid, m, rest, rx', v, rfl, hran, hrun⟩ | ⟨rx', v, hran, hrun⟩
  · have hcaches : s.committed mid = s :=
      s.committed_of_no_commit fun r' w' hm => hnoCommit r' w' (List.mem_append_left _ hm)
    have hline : v.csLine = false ∨ .chipSelect false ∈ m :: rest := by
      rw [hran.csLine]
      exact hreleases.released_or_pending hcs
    rw [hrun]
    refine .inl ⟨m :: rest ++ [.commit r w, .returnCode .ok], rx', ?_, ⟨mid, by simp⟩, List.suffix_append _ _, ?_, ?_,
      hran.result, hline.imp id (List.mem_append_left _)⟩
    · rw [State.hold_tasks, hran.tasks]
    · rw [State.hold_reg, hran.reg, List.nil_append, hcaches]
    · rw [State.hold_valid, hran.valid, List.nil_append, hcaches]
  · have hcaches : s.committed p = s := s.committed_of_no_commit hnoCommit
    have hline : v.csLine = false := by
      rw [hran.csLine]
      exact hreleases.released hcs
    have hend : runMicros [.commit r w, .returnCode .ok] rx' v = (v.commit r w).answer (.code .ok) := rfl
    rw [hrun, hend]
    refine .inr ⟨hran.tasks, ?_, ?_, rfl, hline⟩
    · rw [State.answer_reg, State.commit_reg, hran.reg, List.nil_append, hcaches]
    · rw [State.answer_valid, State.commit_valid, hran.valid, List.nil_append, hcaches]

theorem State.resume_of_tasks {rest : List Micro} (h : s.tasks = ⟨rest, rx⟩ :: below) :
    s.resume = runMicros rest rx { s with tasks := below } := by
  simp [State.resume, h]

theorem setterLines_eq (m : RegMap) (l : Layout) (args : List Word32) :
    setterBody m l args ++ [.returnCode .ok] =
      sendWordPlan (m.word l args) ++ [.commit (layoutReg l) (m.word l args), .returnCode .ok] := by
  simp [setterBody]

/-- The first segment of a setter with valid arguments. -/
theorem setterSegment_call {l : Layout} {args : List Word32} (hargs : argsValid l args = true) (s : State) :
    SetterSegment (layoutReg l) (s.cfg.regMap.word l args) (setterBody s.cfg.regMap l args ++ [.returnCode .ok]) s.tasks s
      (s.setter l args) := by
  have hcall : s.setter l args = runMicros (setterBody s.cfg.regMap l args ++ [.returnCode .ok]) .none s := if_pos hargs
  rw [hcall, setterLines_eq]
  exact setterSegment_of_suffix List.suffix_rfl .of_call (.inr (chipSelect_false_mem_sendWordPlan _))

/-- A later segment of a setter, from where it was held. -/
theorem setterSegment_resume {r : RegId} {w : Word20} {rest : List Micro}
    (hrest : rest <:+ sendWordPlan w ++ [.commit r w, .returnCode .ok]) (hcommit : [.commit r w, .returnCode .ok] <:+ rest)
    (hcs : s.csLine = false ∨ .chipSelect false ∈ rest) (h : s.tasks = ⟨rest, rx⟩ :: below) :
    SetterSegment r w rest below s s.resume := by
  obtain ⟨p, rfl⟩ := hcommit
  have hp : p <:+ sendWordPlan w := ((List.suffix_append_inj_of_length_eq rfl).mp hrest).1
  rw [State.resume_of_tasks h]
  exact setterSegment_of_suffix hp .of_resume (by simpa using hcs)

/-! ## DRIVER_INIT and STATUS_READ (R150, R160, R192, R197) -/

/-- The closing lines that DRIVER_INIT, INITIALIZE_TICK, STATUS_READ and TESTDELAY_TICK have, or may still have to make. -/
inductive Closing : List Micro → Prop where
  | nothing : Closing []
  | enable : Closing [.enable true]
  | enableEnter : Closing [.enable true, .enter .home]
  | enter : Closing [.enter .home]
  | returnStatus (kind : StatusKind) : Closing [.returnStatus kind]
  | testDelayExit : Closing [.testDelayExit]

theorem Closing.tail {m : Micro} {l : List Micro} (h : Closing (m :: l)) : Closing l := by
  cases h with
  | enableEnter => exact .enter
  | enable | enter | returnStatus | testDelayExit => exact .nothing

theorem Closing.commit_notMem {l : List Micro} (h : Closing l) (r : RegId) (w : Word20) : .commit r w ∉ l := by
  cases h <;> simp

/-- What ENTER(Home) and the exit test leave in STATE, TICKS and PROFILE_ACTIVE (R187, R192, R198), and that no closing
line is held or writes a cache. -/
theorem Closing.run {l : List Micro} (h : Closing l) (rx : Received) (v : State) :
    let t := runMicros l rx v
    t.reg = v.reg ∧ t.valid = v.valid ∧ t.tasks = v.tasks ∧ (.enable true ∈ l → t.enLine = true) ∧
      (.enter .home ∈ l → t.tilt = .home ∧ t.ticks = 0 ∧ t.profileActive = false) ∧
      (.testDelayExit ∈ l →
        if v.cfg.testDelayTicks ≤ v.ticks.toNat then t.tilt = .tiltTable ∧ t.ticks = 0 ∧ t.profileActive = false
        else t.tilt = v.tilt ∧ t.ticks = v.ticks ∧ t.profileActive = v.profileActive) := by
  cases h with
  | testDelayExit =>
    have hrun : runMicros [.testDelayExit] rx v = v.testDelayExit := rfl
    rcases v.testDelayExit_cases with ⟨hreached, hexit⟩ | ⟨hnot, hexit⟩
    · simp [hrun, hexit, hreached]
    · simp [hrun, hexit, hnot]
  | _ => simp [runMicros, Micro.attempt]

/-- Lines in the order R147 asks for: a body, then the closing lines. -/
def BodyThenClosing (l : List Micro) : Prop :=
  ∃ front closing, l = front ++ closing ∧ (∀ m ∈ front, m.inBody = true) ∧ Closing closing

theorem BodyThenClosing.tail {m : Micro} {l : List Micro} (h : BodyThenClosing (m :: l)) : BodyThenClosing l := by
  obtain ⟨front, closing, hl, hbody, hclosing⟩ := h
  cases front with
  | nil =>
    subst hl
    exact ⟨[], l, rfl, nofun, Closing.tail hclosing⟩
  | cons _ front => exact ⟨front, closing, (List.cons.inj hl).2, fun x hx => hbody x (.tail _ hx), hclosing⟩

theorem BodyThenClosing.of_suffix {p l : List Micro} (h : BodyThenClosing l) (hp : p <:+ l) : BodyThenClosing p := by
  obtain ⟨q, rfl⟩ := hp
  induction q with
  | nil => exact h
  | cons m q ih => exact ih h.tail

/-- A segment of such lines: where it is held, no closing line has been made; where it ends, all have. -/
theorem linesInOrder_of_bodyThenClosing {todo : List Micro} (hl : BodyThenClosing todo) (h : RanBody [] below s u) :
    LinesInOrder todo below s (runMicros todo rx u) := by
  obtain ⟨front, closing, rfl, hbody, hclosing⟩ := hl
  rcases runMicros_body (closing := closing) (rx := rx) hbody h with
    ⟨mid, m, rest, rx', v, rfl, hran, hrun⟩ | ⟨rx', v, hran, hrun⟩
  · rw [hrun]
    refine ⟨mid, m :: rest ++ closing, List.append_assoc _ _ _, hran.reg, hran.valid, .inl ⟨nofun, ⟨rx', ?_⟩, hran.enLine,
      hran.tilt, hran.ticks, hran.profileActive, hran.result⟩⟩
    rw [State.hold_tasks, hran.tasks]
  · have hcaches : s.committed (front ++ closing) = s.committed front := by
      rw [State.committed_append, State.committed_of_no_commit hclosing.commit_notMem]
    have hclosingLine : ∀ {m : Micro}, m.inBody = false → m ∈ front ++ closing → m ∈ closing := fun hm hmem =>
      (List.mem_append.mp hmem).resolve_left fun hfront => by simp [hbody _ hfront] at hm
    obtain ⟨hreg, hvalid, htasks, henable, henter, hexit⟩ := hclosing.run rx' v
    rw [hrun]
    refine ⟨front ++ closing, [], (List.append_nil _).symm, ?_, ?_, .inr ⟨rfl, htasks.trans hran.tasks,
      fun hm => henable (hclosingLine rfl hm), fun hm => henter (hclosingLine rfl hm), fun hm => ?_⟩⟩
    · rw [hreg, hcaches, hran.reg, List.nil_append]
    · rw [hvalid, hcaches, hran.valid, List.nil_append]
    · simpa [hran.cfg, hran.tilt, hran.ticks, hran.profileActive] using hexit (hclosingLine rfl hm)

/-- The first segment of such lines, where an operation is called. -/
theorem linesInOrder_call {todo : List Micro} (hl : BodyThenClosing todo) (s : State) :
    LinesInOrder todo s.tasks s (s.call todo) :=
  linesInOrder_of_bodyThenClosing hl .of_call

/-- A later segment of such lines, from where they were held. -/
theorem linesInOrder_resume {todo rest : List Micro} (hl : BodyThenClosing todo) (hrest : rest <:+ todo)
    (h : s.tasks = ⟨rest, rx⟩ :: below) : LinesInOrder rest below s s.resume := by
  rw [State.resume_of_tasks h]
  exact linesInOrder_of_bodyThenClosing (hl.of_suffix hrest) .of_resume

end Segments

/-! ### DRIVER_INIT -/

/-- Each commit among these lines follows the exchange of its own word. -/
def CommitsFollowSend (l : List Micro) : Prop :=
  ∀ before r w after, l = before ++ .commit r w :: after → sendWordPlan w <:+ before

theorem CommitsFollowSend.of_no_commit {l : List Micro} (h : ∀ r w, .commit r w ∉ l) : CommitsFollowSend l := by
  rintro before r w after rfl
  exact absurd (List.mem_append_right before List.mem_cons_self) (h r w)

theorem CommitsFollowSend.append {a b : List Micro} (ha : CommitsFollowSend a) (hb : CommitsFollowSend b) :
    CommitsFollowSend (a ++ b) := by
  intro before r w after h
  rcases List.append_eq_append_iff.mp h with ⟨mid, rfl, hmid⟩ | ⟨mid, hmid, hafter⟩
  · exact (hb mid r w after hmid).trans (List.suffix_append a mid)
  · cases mid with
    | nil => exact (hb [] r w after hafter.symm).trans (List.nil_suffix)
    | cons m mid =>
      obtain ⟨rfl, -⟩ := List.cons.inj hafter
      exact ha before r w mid hmid

theorem commitsFollowSend_setterPlan (m : RegMap) (l : Layout) (args : List Word32) :
    CommitsFollowSend (setterPlan m l args) := by
  unfold setterPlan
  split
  · intro before r w after h
    obtain ⟨rfl, ⟨-, rfl⟩, -⟩ := commit_eq_of_sendWordPlan_split List.not_mem_nil h
    exact List.suffix_rfl
  · exact .of_no_commit fun _ _ => List.not_mem_nil

theorem inBody_of_mem_setterPlan {m : RegMap} {l : Layout} {args : List Word32} {x : Micro} (h : x ∈ setterPlan m l args) :
    x.inBody = true := by
  unfold setterPlan setterBody at h
  split at h
  · rcases List.mem_append.mp h with hsend | hcommit
    · exact Micro.inBody_of_isTransport (isTransport_of_mem_sendWordPlan hsend)
    · rw [List.mem_singleton.mp hcommit]; rfl
  · exact absurd h List.not_mem_nil

/-- The five setters of DRIVER_INIT in register order (R160). -/
def initSetters (c : Config) : List Micro :=
  [(.drvctrlSd, initDrvctrl c.init), (.chopconf, initChopconf c.init), (.smarten, initSmarten c.init),
    (.sgcsconf, initSgcsconf c.init), (Layout.drvconf, initDrvconf c.init)].flatMap fun p => setterPlan c.regMap p.1 p.2

theorem driverInitPlan_eq (c : Config) : driverInitPlan c = initSetters c ++ [.enable true] := by
  simp [driverInitPlan, initSetters]

theorem inBody_of_mem_initSetters {c : Config} {x : Micro} (h : x ∈ initSetters c) : x.inBody = true := by
  obtain ⟨p, -, hx⟩ := List.mem_flatMap.mp h
  exact inBody_of_mem_setterPlan hx

theorem commitsFollowSend_flatMap {α : Type} {f : α → List Micro} (h : ∀ a, CommitsFollowSend (f a)) (as : List α) :
    CommitsFollowSend (as.flatMap f) := by
  induction as with
  | nil => exact .of_no_commit fun _ _ => List.not_mem_nil
  | cons a as ih => exact (h a).append ih

theorem commitsFollowSend_driverInitPlan (c : Config) : CommitsFollowSend (driverInitPlan c) := by
  rw [driverInitPlan_eq]
  exact (commitsFollowSend_flatMap (fun _ => commitsFollowSend_setterPlan _ _ _) _).append
    (.of_no_commit Closing.enable.commit_notMem)

theorem bodyThenClosing_driverInitPlan (c : Config) : BodyThenClosing (driverInitPlan c) :=
  ⟨initSetters c, [.enable true], driverInitPlan_eq c, fun _ => inBody_of_mem_initSetters, .enable⟩

theorem bodyThenClosing_initializeTick (c : Config) : BodyThenClosing (driverInitPlan c ++ [.enter .home]) :=
  ⟨initSetters c, [.enable true, .enter .home], by simp [driverInitPlan_eq], fun _ => inBody_of_mem_initSetters,
    .enableEnter⟩

/-! ### STATUS_READ -/

theorem statusReadPlan_eq (kind : StatusKind) (w : Word20) :
    statusReadPlan kind w = sendWordPlan w ++ .commit .drvconf w :: (sendWordPlan w ++ [.telemetry kind]) := by
  simp [statusReadPlan]

theorem inBody_of_mem_statusReadPlan {kind : StatusKind} {w : Word20} {x : Micro} (h : x ∈ statusReadPlan kind w) :
    x.inBody = true := by
  simp only [statusReadPlan, List.mem_append, List.mem_cons, List.not_mem_nil, or_false] at h
  rcases h with (hsend | rfl | hsend) | rfl
  · exact Micro.inBody_of_isTransport (isTransport_of_mem_sendWordPlan hsend)
  · rfl
  · exact Micro.inBody_of_isTransport (isTransport_of_mem_sendWordPlan hsend)
  · rfl

theorem bodyThenClosing_statusRead (kind : StatusKind) (w : Word20) {closing : List Micro} (h : Closing closing) :
    BodyThenClosing (statusReadPlan kind w ++ closing) :=
  ⟨statusReadPlan kind w, closing, rfl, fun _ => inBody_of_mem_statusReadPlan, h⟩

theorem commit_mem_statusReadPlan (kind : StatusKind) (w : Word20) : .commit .drvconf w ∈ statusReadPlan kind w := by
  rw [statusReadPlan_eq]
  exact List.mem_append_right _ List.mem_cons_self

/-- The one commit of a status read stands between its two exchanges (R150). -/
theorem statusReadPlan_split {kind : StatusKind} {v w : Word20} {r : RegId} {before after : List Micro}
    (h : statusReadPlan kind v = before ++ .commit r w :: after) :
    r = .drvconf ∧ w = v ∧ before = sendWordPlan w ∧ sendWordPlan w <+: after := by
  rw [statusReadPlan_eq] at h
  have htail : .commit r w ∉ sendWordPlan v ++ [.telemetry kind] := by simp [commit_notMem_sendWordPlan]
  obtain ⟨rfl, ⟨rfl, rfl⟩, rfl⟩ := commit_eq_of_sendWordPlan_split htail h
  exact ⟨rfl, rfl, rfl, List.prefix_append _ _⟩

/-- Settles O16: setters by the part of their exchange that is left, the others by their body and closing lines. -/
theorem cacheWrittenOnlyAfterExchange : Obligations.CacheWrittenOnlyAfterExchange := by
  unfold Obligations.CacheWrittenOnlyAfterExchange
  refine ⟨fun l args s hargs => ⟨setterSegment_call hargs s, fun rest rx below hrest hcommit hcs htasks => ?_⟩,
    fun c => ⟨commitsFollowSend_driverInitPlan c, ?_⟩,
    fun kind s => ⟨⟨commit_mem_statusReadPlan kind _, fun _ _ _ _ => statusReadPlan_split⟩, ?_, ?_, ?_⟩⟩
  · exact setterSegment_resume (setterLines_eq _ _ _ ▸ hrest) hcommit hcs htasks
  · rintro s rfl
    refine ⟨⟨_, rfl, linesInOrder_call (bodyThenClosing_driverInitPlan _) s⟩,
      ⟨_, rfl, linesInOrder_call (bodyThenClosing_initializeTick _) s⟩, fun rest rx below hrest htasks => ?_⟩
    rcases hrest with hrest | hrest
    · exact linesInOrder_resume (bodyThenClosing_driverInitPlan _) hrest htasks
    · exact linesInOrder_resume (bodyThenClosing_initializeTick _) hrest htasks
  · exact ⟨_, rfl, linesInOrder_call (bodyThenClosing_statusRead _ _ (.returnStatus kind)) s⟩
  · intro htick
    refine ⟨s.testDelayTick, rfl, ?_⟩
    rw [State.testDelayTick, if_pos htick]
    exact linesInOrder_call (bodyThenClosing_statusRead _ _ .testDelayExit) s
  · intro w rest rx below hrest htasks
    rcases hrest with hrest | hrest
    · exact linesInOrder_resume (bodyThenClosing_statusRead _ _ (.returnStatus kind)) hrest htasks
    · exact linesInOrder_resume (bodyThenClosing_statusRead _ _ .testDelayExit) hrest htasks

end Sys2Proof.Machine
end

section
/-! Proofs about the Motion Primitives (spec 43_motion.md): a pulse counts modulo 2^POS_WIDTH, the exact angle is the
count times the positive angle of one step, and comparing a non-decreasing angle with a bound is comparing the count. -/

namespace Sys2Proof

/-! ## The angle of a count -/

theorem Config.ratios_pos_of_wf {c : Config} (h : c.wf = true) :
    0 < c.gearNum ∧ 0 < c.gearDen ∧ 0 < c.microstepsPerRev := by
  simp only [Config.wf, Bool.and_eq_true, decide_eq_true_eq, and_assoc] at h
  obtain ⟨hnum, hden, hrev, -⟩ := h
  exact ⟨hnum, hden, hrev⟩

theorem stepAngle_pos {c : Config} (h : c.wf = true) : 0 < stepAngle c := by
  obtain ⟨hnum, hden, hrev⟩ := Config.ratios_pos_of_wf h
  unfold stepAngle
  positivity

/-- The exact angle is the count times the radians of one step (R176 and R177). -/
theorem angleOf_eq_mul_stepAngle (c : Config) (n : Int) : angleOf c n = n * stepAngle c := by
  unfold angleOf stepAngle
  ring

@[simp] theorem angleOf_zero (c : Config) : angleOf c 0 = 0 := by
  simp [angleOf_eq_mul_stepAngle]

theorem angleOf_add (c : Config) (m n : Int) : angleOf c (m + n) = angleOf c m + angleOf c n := by
  simp only [angleOf_eq_mul_stepAngle, Int.cast_add, add_mul]

theorem angleOf_strictMono {c : Config} (h : c.wf = true) : StrictMono (angleOf c) := by
  intro m n hmn
  rw [angleOf_eq_mul_stepAngle, angleOf_eq_mul_stepAngle]
  exact mul_lt_mul_of_pos_right (Int.cast_lt.mpr hmn) (stepAngle_pos h)

/-- Settles O24: the angle is the count times a positive constant. -/
theorem angleIsLinearAndIncreasing : Obligations.AngleIsLinearAndIncreasing := by
  unfold Obligations.AngleIsLinearAndIncreasing
  exact fun c hwf => ⟨angleOf_zero c, angleOf_add c, fun _ _ hmn => angleOf_strictMono hwf hmn⟩

/-! ## Thresholds of the limiter -/

/-- A count is above the rounded-down bound just where its exact angle is beyond the bound (R177). -/
theorem floor_div_stepAngle_lt_iff {c : Config} (h : c.wf = true) (upper : ℝ) (n : Int) :
    ⌊upper / stepAngle c⌋ < n ↔ upper < angleOf c n := by
  rw [Int.floor_lt, div_lt_iff₀ (stepAngle_pos h), angleOf_eq_mul_stepAngle]

/-- A count is below the rounded-up bound just where its exact angle is beyond the bound (R177). -/
theorem lt_ceil_div_stepAngle_iff {c : Config} (h : c.wf = true) (lower : ℝ) (n : Int) :
    n < ⌈lower / stepAngle c⌉ ↔ angleOf c n < lower := by
  rw [Int.lt_ceil, lt_div_iff₀ (stepAngle_pos h), angleOf_eq_mul_stepAngle]

/-- On a range of counts, a property that passes from each count to the larger ones holds from some count on: from the
first one of the range that has it, or from above the range. -/
theorem exists_first_count {P : Int → Prop} (hP : ∀ m n, m ≤ n → P m → P n) (a b : Int) :
    ∃ first : Int, ∀ n, a ≤ n → n ≤ b → (first ≤ n ↔ P n) := by
  have hbounded : ∃ z, ∀ n, a ≤ n ∧ (P n ∨ b < n) → z ≤ n := ⟨a, fun _ hn => hn.1⟩
  have hinhabited : ∃ n, a ≤ n ∧ (P n ∨ b < n) := ⟨max a (b + 1), le_max_left _ _, .inr (by omega)⟩
  obtain ⟨first, ⟨-, hfirst⟩, hleast⟩ := Int.exists_least_of_bdd hbounded hinhabited
  refine ⟨first, fun n han hnb => ⟨fun hle => ?_, fun hn => hleast n ⟨han, .inl hn⟩⟩⟩
  rcases hfirst with hfirst | habove
  · exact hP first n hle hfirst
  · omega

/-- A count that POS_WIDTH bits hold is between -2^POS_WIDTH and 2^POS_WIDTH. -/
theorem Config.between_of_holdsSteps {c : Config} {n : Int} (h : c.holdsSteps n) :
    -(2 ^ c.posWidth : Int) ≤ n ∧ n ≤ 2 ^ c.posWidth := by
  obtain ⟨hlo, hhi⟩ := h
  omega

/-- Every non-decreasing angle has thresholds on the counts that POS_WIDTH bits hold: the upper one stands just below
the first count beyond the upper bound, the lower one at the first count that is not beyond the lower bound. -/
theorem exists_limitsFor_of_monotone (c : Config) {angle : Int → ℝ} (hmono : Monotone angle) (upper lower : ℝ) :
    ∃ u l : Int, ({ c with upperSteps := u, lowerSteps := l } : Config).LimitsFor angle upper lower := by
  obtain ⟨above, habove⟩ := exists_first_count (P := fun n => upper < angle n)
    (fun _ _ hmn hm => hm.trans_le (hmono hmn)) (-(2 ^ c.posWidth)) (2 ^ c.posWidth)
  obtain ⟨within, hwithin⟩ := exists_first_count (P := fun n => lower ≤ angle n)
    (fun _ _ hmn hm => hm.trans (hmono hmn)) (-(2 ^ c.posWidth)) (2 ^ c.posWidth)
  refine ⟨above - 1, within, fun n hn => ?_⟩
  obtain ⟨hlo, hhi⟩ := Config.between_of_holdsSteps hn
  constructor
  · exact Int.sub_one_lt_iff.trans (habove n hlo hhi)
  · exact lt_iff_lt_of_le_iff_le (hwithin n hlo hhi)

theorem Machine.State.outOfBounds_iff (s : State) :
    s.outOfBounds = true ↔ s.cfg.upperSteps < s.steps ∨ s.steps < s.cfg.lowerSteps := by
  simp [State.outOfBounds]

/-- Settles O25: rounding turns the exact bounds into thresholds, a first count beyond a bound does so for any other
angle, and the limiter compares the count with the thresholds. -/
theorem limiterThresholdsMatchAngle : Obligations.LimiterThresholdsMatchAngle := by
  unfold Obligations.LimiterThresholdsMatchAngle
  refine ⟨?exact, fun c _ upper lower hmono => exists_limitsFor_of_monotone c hmono upper lower, ?limiter⟩
  case exact =>
    rintro c upper lower hwf ⟨hupper, hlower⟩ n
    rw [hupper, hlower]
    exact ⟨floor_div_stepAngle_lt_iff hwf upper n, lt_ceil_div_stepAngle_iff hwf lower n⟩
  case limiter =>
    intro angle upper lower s hfit hlimits
    obtain ⟨hupper, hlower⟩ := hlimits s.steps hfit
    rw [Machine.State.outOfBounds_iff, hupper, hlower]

end Sys2Proof

namespace Sys2Proof.Machine

/-! ## One operation -/

theorem exec_setDirection (d : Direction) (s : State) : exec (.setDirection d) s = .next (s.turnTo d) := rfl

theorem exec_stepPulse (s : State) : exec .stepPulse s = .next s.pulse := rfl

section Turning

variable (s : State)

/-! What SET_DIRECTION changes, by its direction (R171). -/

theorem State.turnTo_clockwise :
    s.turnTo .clockwise = { s with direction := .clockwise, dirLine := s.cfg.dirLevelCw } := rfl

theorem State.turnTo_counterClockwise :
    s.turnTo .counterClockwise = { s with direction := .counterClockwise, dirLine := !s.cfg.dirLevelCw } := rfl

theorem State.turnTo_stopped : s.turnTo .stopped = { s with direction := .stopped } := rfl

end Turning

/-- Settles O21: one equation per direction. -/
theorem setDirectionDrivesLine : Obligations.SetDirectionDrivesLine := by
  unfold Obligations.SetDirectionDrivesLine
  intro s
  rw [exec_setDirection, exec_setDirection, exec_setDirection]
  exact ⟨congrArg _ s.turnTo_clockwise, congrArg _ s.turnTo_counterClockwise, congrArg _ s.turnTo_stopped⟩

@[simp] theorem Direction.sign_stopped : Direction.stopped.sign = 0 := rfl
@[simp] theorem Direction.sign_clockwise : Direction.clockwise.sign = 1 := rfl
@[simp] theorem Direction.sign_counterClockwise : Direction.counterClockwise.sign = -1 := rfl

theorem State.pulse_stepsFit (s : State) : s.pulse.StepsFit :=
  s.cfg.holdsSteps_wrapSteps _

/-- A pulse counts modulo 2^POS_WIDTH (R24 and R173). -/
theorem State.dvd_pulse_steps_sub (s : State) :
    (2 ^ s.cfg.posWidth : Int) ∣ s.pulse.steps - (s.steps + s.direction.sign) :=
  s.cfg.dvd_wrapSteps_sub _

/-- A pulse while Stopped moves the line and not a count that fits (R174). -/
theorem State.pulse_steps_of_stopped {s : State} (hfit : s.StepsFit) (hstopped : s.direction = .stopped) :
    s.pulse.steps = s.steps := by
  rw [State.pulse_steps, hstopped, Direction.sign_stopped, Int.add_zero, Config.wrapSteps_of_holds hfit]

/-- Settles O22: the count is the wrapped sum of STEPS and the direction's sign. -/
theorem stepPulseCountsSigned : Obligations.StepPulseCountsSigned := by
  unfold Obligations.StepPulseCountsSigned
  intro s
  obtain ⟨hlo, hhi⟩ := s.pulse_stepsFit
  refine ⟨s.pulse.steps, hlo, hhi, ?counts, State.pulse_steps_of_stopped, exec_stepPulse s⟩
  have hcount := s.dvd_pulse_steps_sub
  cases hd : s.direction with
  | stopped | clockwise | counterClockwise =>
    rw [hd] at hcount
    exact hcount

/-! ## Pulses one after another -/

/-- N - M for N Clockwise and M CounterClockwise pulses (R178). -/
def netTurns (ds : List Turn) : Int := ds.count .clockwise - ds.count .counterClockwise

@[simp] theorem netTurns_nil : netTurns [] = 0 := rfl

@[simp] theorem netTurns_cons (d : Turn) (ds : List Turn) :
    netTurns (d :: ds) = d.toDirection.sign + netTurns ds := by
  unfold netTurns
  cases d with
  | clockwise | counterClockwise =>
    simp only [List.count_cons, beq_iff_eq, reduceCtorEq, reduceIte, Turn.toDirection, Direction.sign]
    omega

section Pulses

variable (d : Turn) (ds : List Turn) (s : State)

@[simp] theorem State.pulses_nil : s.pulses [] = s := rfl

@[simp] theorem State.pulses_cons : s.pulses (d :: ds) = ((s.turnTo d.toDirection).pulse).pulses ds := rfl

@[simp] theorem State.pulses_cfg : (s.pulses ds).cfg = s.cfg := by
  induction ds generalizing s with
  | nil => rfl
  | cons d ds ih => rw [State.pulses_cons, ih, State.pulse_cfg, State.turnTo_cfg]

theorem State.pulses_stepsFit {s : State} (h : s.StepsFit) : (s.pulses ds).StepsFit := by
  induction ds generalizing s with
  | nil => exact h
  | cons d ds ih => exact ih (State.pulse_stepsFit _)

/-- Each pulse counts modulo 2^POS_WIDTH, so all of them do, and their sum does not know their order. -/
theorem State.dvd_pulses_steps_sub :
    (2 ^ s.cfg.posWidth : Int) ∣ (s.pulses ds).steps - (s.steps + netTurns ds) := by
  induction ds generalizing s with
  | nil => simp
  | cons d ds ih =>
    have hfirst := (s.turnTo d.toDirection).dvd_pulse_steps_sub
    rw [← add_sub_add_right_eq_sub _ _ (netTurns ds)] at hfirst
    have hall := dvd_add (ih (s.turnTo d.toDirection).pulse) hfirst
    rw [sub_add_sub_cancel, add_assoc] at hall
    rw [netTurns_cons]
    exact hall

/-- Where the sum fits, STEPS is that sum (R178): after one pulse or more the count fits, whatever it was. -/
theorem State.pulses_steps_of_holds {ds : List Turn} {s : State} (h : s.cfg.holdsSteps (s.steps + netTurns ds)) :
    (s.pulses ds).steps = s.steps + netTurns ds := by
  cases ds with
  | nil => simp
  | cons d ds =>
    have hfit : (s.pulses (d :: ds)).StepsFit := State.pulses_stepsFit ds (State.pulse_stepsFit _)
    rw [State.StepsFit, State.pulses_cfg] at hfit
    exact Config.holdsSteps_unique hfit h (s.dvd_pulses_steps_sub (d :: ds))

end Pulses

/-- Settles O23: the count moves by the net of the turns, and the angle is additive. -/
theorem pulseOrderDoesNotMatter : Obligations.PulseOrderDoesNotMatter := by
  unfold Obligations.PulseOrderDoesNotMatter
  intro ds s
  refine ⟨s.dvd_pulses_steps_sub ds, fun hholds => ?_⟩
  have hsteps := State.pulses_steps_of_holds hholds
  exact ⟨hsteps, hsteps ▸ angleOf_add s.cfg s.steps (netTurns ds)⟩

end Sys2Proof.Machine
end

section
/-! Proofs about the Tilt State Machine (spec 44_tilt_fsm.md): a tick asks the limiter, is counted, and then runs the
routine of its state; each routine has an equation for its first tick and one for the later ones. -/

namespace Sys2Proof

/-- The default HOME_DIR looks at the flag alone (R196). -/
@[simp] theorem HomeDirTable.default_lookup (covered zero : Bool) :
    HomeDirTable.default.lookup covered zero = if covered then .clockwise else .counterClockwise := by
  cases covered with
  | true | false => cases zero <;> rfl

end Sys2Proof

namespace Sys2Proof.Machine

/-! ## The rows -/

section Rows

variable (s : State)

theorem exec_enter (target : TiltState) : exec (.enter target) s = .next (s.enter target) := rfl
theorem exec_tick : exec .tick s = .next (s.enterHandler .tick).tickBody := rfl
theorem exec_homeTick : exec .homeTick s = .next s.homeTick := rfl
theorem exec_tilttableTick : exec .tilttableTick s = .next s.tiltTableTick := rfl
theorem exec_testTickCw : exec .testTickCw s = .next (s.testTick .clockwise .testCounterClockwise) := rfl
theorem exec_testTickCcw : exec .testTickCcw s = .next (s.testTick .counterClockwise .testClockwise) := rfl

end Rows

@[simp] theorem routineOf_error : routineOf .error = none := rfl

/-- The row of a state's routine does what a counted tick does in that state (R188). -/
theorem exec_of_routineOf {i : Instr} {s : State} (h : routineOf s.tilt = some i) : exec i s = .next s.tickRoutine := by
  unfold State.tickRoutine
  cases htilt : s.tilt with
  | initial | home | testDelay | tiltTable | testClockwise | testCounterClockwise =>
    rw [htilt] at h
    cases h
    rfl
  | error => simp [htilt] at h

/-- Settles O27: the row is ENTER. -/
theorem enterZeroesTicks : Obligations.EnterZeroesTicks := by
  unfold Obligations.EnterZeroesTicks
  intro target s
  rw [exec_enter, State.enter]

/-- Entering a state where no sweep is alive leaves PROFILE_ACTIVE as it was. -/
theorem State.enter_of_no_sweep {s : State} (h : s.profileActive = false) (target : TiltState) :
    s.enter target = { s with tilt := target, ticks := 0 } := by
  rw [State.enter, ← h]

/-! ## The limiter (R190) -/

theorem limited_iff (t : TiltState) :
    limited t = true ↔ t = .testDelay ∨ t = .tiltTable ∨ t = .testClockwise ∨ t = .testCounterClockwise := by
  cases t with
  | initial | home | error | testDelay | tiltTable | testClockwise | testCounterClockwise => simp [limited]

@[simp] theorem limited_initial : limited .initial = false := rfl
@[simp] theorem limited_home : limited .home = false := rfl
@[simp] theorem limited_error : limited .error = false := rfl

/-- A tick on which the limiter trips enters Home and does nothing else. -/
theorem exec_tick_of_trips {s : State} (hlimited : limited s.tilt = true) (hbeyond : s.outOfBounds = true) :
    exec .tick s = .next ((s.enterHandler .tick).enter .home) := by
  have herror : s.tilt ≠ .error := fun herror => by simp [herror] at hlimited
  have hout : (s.enterHandler .tick).outOfBounds = true := hbeyond
  rw [exec_tick, State.tickBody, State.enterHandler_tilt, if_neg herror, hlimited, hout, Bool.and_self, if_pos rfl]

/-- A tick on which the limiter does not trip is counted, and then the state's routine runs. -/
theorem exec_tick_of_counted {i : Instr} {s : State} (hroutine : routineOf s.tilt = some i)
    (hwithin : limited s.tilt = false ∨ s.outOfBounds = false) :
    exec .tick s = exec i (s.enterHandler .tick).countTick := by
  have herror : s.tilt ≠ .error := fun herror => by simp [herror] at hroutine
  have hpasses : (limited s.tilt && (s.enterHandler .tick).outOfBounds) = false := Bool.and_eq_false_iff.mpr hwithin
  have hroutine' : routineOf (s.enterHandler .tick).countTick.tilt = some i := hroutine
  rw [exec_tick, State.tickBody, State.enterHandler_tilt, if_neg herror, hpasses, if_neg Bool.false_ne_true,
    exec_of_routineOf hroutine']

/-- Settles O29: the thresholds turn the angle's comparison into the limiter's test, which decides between Home and the
state's routine. -/
theorem limiterForcesHome : Obligations.LimiterForcesHome := by
  unfold Obligations.LimiterForcesHome
  intro angleAt upper lower s hfit hlimits angle
  obtain ⟨-, -, htest⟩ := limiterThresholdsMatchAngle
  have hout : s.outOfBounds = true ↔ upper < angle ∨ angle < lower := htest angleAt upper lower s hfit hlimits
  refine ⟨fun hstate hbeyond => ?beyond, fun i hroutine hexempt => ?counted⟩
  case beyond => exact exec_tick_of_trips ((limited_iff _).mpr hstate) (hout.mpr hbeyond)
  case counted =>
    refine exec_tick_of_counted hroutine ?_
    rcases hexempt with hinitial | hhome | ⟨hlower, hupper⟩
    · exact .inl (hinitial ▸ limited_initial)
    · exact .inl (hhome ▸ limited_home)
    · refine .inr (Bool.eq_false_iff.mpr fun htrips => ?_)
      rcases hout.mp htrips with habove | hbelow
      · exact habove.not_ge hupper
      · exact hbelow.not_ge hlower

/-! ## Turning to a direction that is not Stopped -/

/-- The level of DIR_LINE that a turn sets (R171). -/
def dirLevel (c : Config) : Turn → Bool
  | .clockwise => c.dirLevelCw
  | .counterClockwise => !c.dirLevelCw

theorem State.turnTo_toDirection (d : Turn) (s : State) :
    s.turnTo d.toDirection = { s with direction := d.toDirection, dirLine := dirLevel s.cfg d } := by
  cases d with
  | clockwise | counterClockwise => rfl

/-! ## HOME_TICK (R194) -/

theorem State.homeTick_of_first {s : State} (h : s.ticks = 1) :
    s.homeTick = (s.programTimer s.cfg.homingPeriod).turnTo
      (s.cfg.homeDir.lookup s.covered (s.steps == 0)).toDirection :=
  if_pos h

theorem State.homeTick_of_later {s : State} (h : s.ticks ≠ 1) : s.homeTick = s := if_neg h

/-- Settles O32: tick 1 programs the timer and turns, and the default direction is the flag's. -/
theorem homeTickStartsHoming : Obligations.HomeTickStartsHoming := by
  unfold Obligations.HomeTickStartsHoming
  intro s d
  refine ⟨fun hfirst => ?first, fun hlater => ?later, fun hdefault => ?direction⟩
  case first =>
    rw [exec_homeTick, State.homeTick_of_first hfirst, State.turnTo_toDirection]
    rfl
  case later => rw [exec_homeTick, State.homeTick_of_later hlater]
  case direction => simp only [d, hdefault, HomeDirTable.default_lookup, beq_iff_eq]

/-! ## TILTTABLE_TICK (R203 to R205) -/

section Profile

variable {c : Config} {idx p : Word32}

theorem profileEntry_zero (c : Config) : profileEntry c 0 = c.profile.head? := List.head?_eq_getElem?.symm

theorem positiveEntry_of_pos (h : profileEntry c idx = some p) (hp : 0 < p.toInt) : positiveEntry c idx = some p := by
  simp [positiveEntry, h, hp]

theorem positiveEntry_of_no_pos (h : ∀ p, profileEntry c idx = some p → p.toInt ≤ 0) :
    positiveEntry c idx = none := by
  cases hentry : profileEntry c idx with
  | none => simp [positiveEntry, hentry]
  | some p => simp [positiveEntry, hentry, h p hentry]

end Profile

/-- What tick 1 of TiltTable does whatever the profile: the turn to SWEEP_DIR, the flip and the index (R203). -/
def State.turnedForSweep (s : State) : State :=
  { s.turnTo s.sweepDir.toDirection with sweepDir := s.sweepDir.opposite, profileIdx := 0 }

section Sweep

variable {s : State} {p : Word32}

theorem State.startSweep_of_some (h : positiveEntry s.cfg 0 = some p) :
    s.startSweep = { s.turnedForSweep.programTimer p with profileActive := true } := by
  simp only [State.startSweep, State.turnTo_cfg, h]
  rfl

theorem State.startSweep_of_none (h : positiveEntry s.cfg 0 = none) : s.startSweep = s.turnedForSweep := by
  simp only [State.startSweep, State.turnTo_cfg, h]
  rfl

theorem State.tiltTableTick_of_first (h : s.ticks = 1) : s.tiltTableTick = s.startSweep := if_pos h

theorem State.tiltTableTick_of_sweeping (h : s.ticks ≠ 1) (hactive : s.profileActive = true) :
    s.tiltTableTick = s := by
  rw [State.tiltTableTick, if_neg h, if_pos hactive]

theorem State.tiltTableTick_of_idle (h : s.ticks ≠ 1) (hidle : s.profileActive = false) :
    s.tiltTableTick = s.enter .tiltTable := by
  rw [State.tiltTableTick, if_neg h, hidle, if_neg Bool.false_ne_true]

end Sweep

/-- Settles O34: tick 1 starts a sweep by the first entry, and a later tick re-enters where none is active. -/
theorem tiltTableTickStartsSweeps : Obligations.TiltTableTickStartsSweeps := by
  unfold Obligations.TiltTableTickStartsSweeps
  intro s turned
  have hturned : s.turnedForSweep = turned := by
    rw [State.turnedForSweep, State.turnTo_toDirection]
    rfl
  simp only [exec_tilttableTick, ← profileEntry_zero, ← hturned]
  refine ⟨fun p hfirst hentry hpos => ?starts, fun hfirst hnone => ?noSteps, fun hlater hactive => ?sweeping,
    fun hlater hidle => ?idle⟩
  case starts =>
    rw [State.tiltTableTick_of_first hfirst, State.startSweep_of_some (positiveEntry_of_pos hentry hpos)]
    rfl
  case noSteps =>
    rw [State.tiltTableTick_of_first hfirst, State.startSweep_of_none (positiveEntry_of_no_pos hnone)]
  case sweeping => rw [State.tiltTableTick_of_sweeping hlater hactive]
  case idle => rw [State.tiltTableTick_of_idle hlater hidle, State.enter_of_no_sweep hidle]

/-! ## TEST_TICK (R206, R207) -/

/-- What a tick of a test state does before its budget is looked at: on tick 1 the driver enabled, the default rate and
the turn. -/
def State.testStarted (d : Turn) (s : State) : State :=
  if s.ticks = 1 then ((s.setEnable true).programTimer s.cfg.defaultPeriod).turnTo d.toDirection else s

section TestTick

variable (d : Turn) (other : TiltState) {s : State}

@[simp] theorem State.testStarted_cfg (s : State) : (s.testStarted d).cfg = s.cfg := by
  unfold State.testStarted
  split <;> rfl

@[simp] theorem State.testStarted_ticks (s : State) : (s.testStarted d).ticks = s.ticks := by
  unfold State.testStarted
  split <;> rfl

theorem State.testTick_eq (s : State) :
    s.testTick d other = if s.cfg.testTickBudget ≤ s.ticks.toNat
      then ((s.testStarted d).setEnable false).enter other else s.testStarted d := by
  rw [State.testTick, ← State.testStarted, State.testStarted_cfg, State.testStarted_ticks]

theorem State.testTick_of_budget_left (h : s.ticks.toNat < s.cfg.testTickBudget) :
    s.testTick d other = s.testStarted d := by
  rw [State.testTick_eq, if_neg h.not_ge]

theorem State.testTick_of_budget_reached (h : s.cfg.testTickBudget ≤ s.ticks.toNat) :
    s.testTick d other = ((s.testStarted d).setEnable false).enter other := by
  rw [State.testTick_eq, if_pos h]

end TestTick

/-- Settles O35: both rows are TEST_TICK, on each side of the budget. -/
theorem testTicksRunAndSwitch : Obligations.TestTicksRunAndSwitch := by
  unfold Obligations.TestTicksRunAndSwitch
  intro s started
  have hcw : s.testStarted .clockwise = started .clockwise s.cfg.dirLevelCw := rfl
  have hccw : s.testStarted .counterClockwise = started .counterClockwise !s.cfg.dirLevelCw := rfl
  rw [exec_testTickCw, exec_testTickCcw, ← hcw, ← hccw]
  refine ⟨fun hleft => ?left, fun hreached => ?reached⟩
  case left =>
    exact ⟨congrArg _ (State.testTick_of_budget_left _ _ hleft),
      congrArg _ (State.testTick_of_budget_left _ _ hleft)⟩
  case reached =>
    exact ⟨congrArg _ (State.testTick_of_budget_reached _ _ hreached),
      congrArg _ (State.testTick_of_budget_reached _ _ hreached)⟩

end Sys2Proof.Machine
end

section
/-! Proofs about the Step Pulse Source (spec 45_step_source.md): an expiry is a dispatch on STATE, and each of its branches
is a pulse, a step of the sweep, or nothing. -/

namespace Sys2Proof.Machine

theorem exec_stepExpiry (s : State) : exec .stepExpiry s = .next (s.enterHandler .step).stepExpiryBody := rfl

/-! ## The pulse by direction -/

/-- The count after one pulse in a direction (R173, R174, R24). -/
def steppedCount (c : Config) (n : Int) : Direction → Int
  | .clockwise => c.wrapSteps (n + 1)
  | .counterClockwise => c.wrapSteps (n - 1)
  | .stopped => c.wrapSteps n

theorem steppedCount_eq (c : Config) (n : Int) (d : Direction) : steppedCount c n d = c.wrapSteps (n + d.sign) := by
  cases d with
  | clockwise | counterClockwise => rfl
  | stopped => rw [Direction.sign_stopped, Int.add_zero, steppedCount]

theorem State.pulse_eq (s : State) :
    s.pulse = { s with stepLine := !s.stepLine, steps := steppedCount s.cfg s.steps s.direction } := by
  rw [steppedCount_eq, State.pulse]

/-! ## The handler by STATE -/

section Dispatch

variable {s : State}

theorem State.stepExpiryBody_of_stepping
    (h : s.tilt = .home ∨ s.tilt = .testClockwise ∨ s.tilt = .testCounterClockwise) : s.stepExpiryBody = s.pulse := by
  unfold State.stepExpiryBody
  rcases h with h | h | h
  all_goals rw [h]

theorem State.stepExpiryBody_of_resting (h : s.tilt = .initial ∨ s.tilt = .testDelay ∨ s.tilt = .error) :
    s.stepExpiryBody = s := by
  unfold State.stepExpiryBody
  rcases h with h | h | h
  all_goals rw [h]

theorem State.stepExpiryBody_of_sweeping (htilt : s.tilt = .tiltTable) (hactive : s.profileActive = true) :
    s.stepExpiryBody = s.sweepStep := by
  rw [State.stepExpiryBody, htilt, hactive]
  rfl

theorem State.stepExpiryBody_of_no_sweep (htilt : s.tilt = .tiltTable) (hidle : s.profileActive = false) :
    s.stepExpiryBody = s := by
  rw [State.stepExpiryBody, htilt, hidle]
  rfl

end Dispatch

/-- Settles O36: the handler's body is a pulse in the states that step, and nothing in those that rest. -/
theorem stepExpiryByState : Obligations.StepExpiryByState := by
  unfold Obligations.StepExpiryByState
  intro s entered
  have hentered : exec .stepExpiry s = .next entered.stepExpiryBody := exec_stepExpiry s
  rw [hentered]
  refine ⟨fun hstepping => ?stepping, fun hresting => ?resting⟩
  case stepping =>
    rw [State.stepExpiryBody_of_stepping (s := entered) hstepping, State.pulse_eq]
    rfl
  case resting => rw [State.stepExpiryBody_of_resting (s := entered) hresting]

/-! ## A step of the sweep (R224) -/

/-- What an expiry of an active sweep does whatever the next entry: the index advances and one step is issued. -/
def State.sweepAdvanced (s : State) : State := { s with profileIdx := s.profileIdx + 1 }.pulse

/-- The two ends of a sweep: past the table, or at an entry that is not positive. -/
theorem positiveEntry_of_sweep_end {c : Config} {idx : Word32}
    (h : c.profile.length ≤ idx.toNat ∨ ∃ p, c.profile[idx.toNat]? = some p ∧ p.toInt ≤ 0) :
    positiveEntry c idx = none := by
  refine positiveEntry_of_no_pos fun q hq => ?_
  rw [profileEntry] at hq
  rcases h with hend | ⟨p, hp, hnonpos⟩
  · rw [List.getElem?_eq_none hend] at hq
    cases hq
  · rw [hp] at hq
    cases hq
    exact hnonpos

section Sweep

variable {s : State} {p : Word32}

theorem State.sweepStep_of_some (h : positiveEntry s.cfg (s.profileIdx + 1) = some p) :
    s.sweepStep = { s.sweepAdvanced with tmrPeriod := p } := by
  simp only [State.sweepStep, State.pulse_cfg, State.pulse_profileIdx, h, State.sweepAdvanced]

theorem State.sweepStep_of_none (h : positiveEntry s.cfg (s.profileIdx + 1) = none) :
    s.sweepStep = { s.sweepAdvanced with profileActive := false } := by
  simp only [State.sweepStep, State.pulse_cfg, State.pulse_profileIdx, h, State.sweepAdvanced]

end Sweep

/-- Settles O37: in an active sweep the entry at the advanced index decides between the next period and the end. -/
theorem stepExpiryAdvancesSweep : Obligations.StepExpiryAdvancesSweep := by
  unfold Obligations.StepExpiryAdvancesSweep
  intro s htilt entered stepped
  have htilt' : entered.tilt = .tiltTable := htilt
  have hentered : exec .stepExpiry s = .next entered.stepExpiryBody := exec_stepExpiry s
  have hstepped : entered.sweepAdvanced = stepped := by
    rw [State.sweepAdvanced, State.pulse_eq]
    rfl
  rw [hentered, ← hstepped]
  refine ⟨fun hidle => ?idle, fun hactive p hentry hpos => ?next, fun hactive hend => ?ends⟩
  case idle => rw [State.stepExpiryBody_of_no_sweep htilt' hidle]
  case next =>
    rw [State.stepExpiryBody_of_sweeping htilt' hactive,
      State.sweepStep_of_some (s := entered) (positiveEntry_of_pos hentry hpos)]
  case ends =>
    rw [State.stepExpiryBody_of_sweeping htilt' hactive,
      State.sweepStep_of_none (s := entered) (positiveEntry_of_sweep_end hend)]

end Sys2Proof.Machine
end

section
/-! Proofs about the Home Sensor Edge Source and the stall stub (spec 46_home_edge.md): reconciliation is an assignment
that keeps all its own inputs, the table, the direction and the level, so doing it again changes nothing. -/

namespace Sys2Proof

/-! ## The table RECONCILE (R236, R238) -/

@[simp] theorem ReconcileTable.lookup_stopped (t : ReconcileTable) (covered : Bool) :
    t.lookup .stopped covered = none := rfl

section Default

variable (w : Int)

/-! The two ends of the flag, each reached from either side. -/

@[simp] theorem ReconcileTable.default_lookup_clockwise (covered : Bool) :
    (ReconcileTable.default w).lookup .clockwise covered = some (if covered then -w else 0) := by
  cases covered with
  | true | false => rfl

@[simp] theorem ReconcileTable.default_lookup_counterClockwise (covered : Bool) :
    (ReconcileTable.default w).lookup .counterClockwise covered = some (if covered then 0 else -w) := by
  cases covered with
  | true | false => rfl

end Default

/-- In a well-formed configuration the flag has a width, and STEPS can hold its far end (R238). -/
theorem Config.flagWidth_of_wf {c : Config} (h : c.wf = true) :
    -c.flagWidthSteps ≠ 0 ∧ c.wrapSteps (-c.flagWidthSteps) = -c.flagWidthSteps := by
  simp only [Config.wf, Bool.and_eq_true, decide_eq_true_eq, and_assoc] at h
  obtain ⟨-, -, -, -, -, -, -, -, hwidth, hfits, -⟩ := h
  exact ⟨by omega, hfits⟩

end Sys2Proof

namespace Sys2Proof.Machine

/-! ## The rows -/

theorem exec_homeEdge (s : State) : exec .homeEdge s = .next (s.enterHandler .home).homeEdgeBody := rfl
theorem exec_stallEdge (s : State) : exec .stallEdge s = .next ((s.enterHandler .stall).emit .debug) := rfl

/-! ## Event entry (R260) -/

theorem Pending.set_get_self (p : Pending) (k : Source) : p.set k (p.get k) = p := by
  cases k with
  | tick | step | home | stall => rfl

/-- Entering the handler of an event that is not pending changes nothing. -/
theorem State.enterHandler_of_not_pending {k : Source} {s : State} (h : s.pend.get k = false) :
    s.enterHandler k = s := by
  rw [State.enterHandler, ← h, Pending.set_get_self]

/-! ## The level of the flag (R236) -/

@[simp] theorem State.enterHandler_covered (s : State) (k : Source) : (s.enterHandler k).covered = s.covered := rfl

theorem State.covered_of_eq {s : State} (h : s.homeIn = s.cfg.homeCoveredLevel) : s.covered = true :=
  beq_iff_eq.mpr h

theorem State.uncovered_of_ne {s : State} (h : s.homeIn ≠ s.cfg.homeCoveredLevel) : s.covered = false :=
  beq_eq_false_iff_ne.mpr h

/-! ## Reconciliation (R237, R239) -/

section Reconcile

variable {r : Int} {s : State}

/-- The home reference, found in Home, ends homing. -/
theorem State.reconcile_of_homed (h : s.tilt = .home ∧ r = 0) :
    s.reconcile r = { s with steps := s.cfg.wrapSteps r }.enter .testDelay :=
  if_pos h

/-- Any other reconciliation is the assignment alone. -/
theorem State.reconcile_of_not_homed (h : ¬(s.tilt = .home ∧ r = 0)) :
    s.reconcile r = { s with steps := s.cfg.wrapSteps r } :=
  if_neg h

variable (r s)

@[simp] theorem State.reconcile_steps : (s.reconcile r).steps = s.cfg.wrapSteps r := by
  by_cases h : s.tilt = .home ∧ r = 0
  · rw [State.reconcile_of_homed h, State.enter_steps]
  · rw [State.reconcile_of_not_homed h]

/-- What the handler reads, and its own latch, a reconciliation leaves alone. -/
theorem State.reconcile_inputs :
    (s.reconcile r).cfg = s.cfg ∧ (s.reconcile r).direction = s.direction ∧
      (s.reconcile r).covered = s.covered ∧ (s.reconcile r).pend = s.pend := by
  by_cases h : s.tilt = .home ∧ r = 0
  · rw [State.reconcile_of_homed h]
    exact ⟨rfl, rfl, rfl, rfl⟩
  · rw [State.reconcile_of_not_homed h]
    exact ⟨rfl, rfl, rfl, rfl⟩

/-- Reconciling twice to the same offset is reconciling once: after the Home to TestDelay transition STATE is not Home, so the
second run only assigns. -/
theorem State.reconcile_reconcile : (s.reconcile r).reconcile r = s.reconcile r := by
  by_cases h : s.tilt = .home ∧ r = 0
  · have hended : ¬((s.reconcile r).tilt = .home ∧ r = 0) := by
      rw [State.reconcile_of_homed h, State.enter_tilt]
      exact fun hhome => TiltState.noConfusion hhome.1
    rw [State.reconcile_of_not_homed hended, State.reconcile_of_homed h]
    rfl
  · rw [State.reconcile_of_not_homed h]
    exact State.reconcile_of_not_homed h

variable {r}

theorem State.reconcile_tilt_of_ne_zero (h : r ≠ 0) : (s.reconcile r).tilt = s.tilt := by
  rw [State.reconcile_of_not_homed fun homed => h homed.2]

end Reconcile

/-! ## The handler's body (R236) -/

section Body

variable {r : Int} {s : State}

theorem State.homeEdgeBody_of_none (h : s.cfg.reconcile.lookup s.direction s.covered = none) :
    s.homeEdgeBody = s := by
  rw [State.homeEdgeBody, h]

theorem State.homeEdgeBody_of_some (h : s.cfg.reconcile.lookup s.direction s.covered = some r) :
    s.homeEdgeBody = s.reconcile r := by
  rw [State.homeEdgeBody, h]

variable (s)

@[simp] theorem State.homeEdgeBody_pend : s.homeEdgeBody.pend = s.pend := by
  cases h : s.cfg.reconcile.lookup s.direction s.covered with
  | none => rw [State.homeEdgeBody_of_none h]
  | some r =>
    obtain ⟨-, -, -, hpend⟩ := s.reconcile_inputs r
    rw [State.homeEdgeBody_of_some h, hpend]

/-- The body finds the same row of the table again, and so the same offset. -/
theorem State.homeEdgeBody_homeEdgeBody : s.homeEdgeBody.homeEdgeBody = s.homeEdgeBody := by
  cases h : s.cfg.reconcile.lookup s.direction s.covered with
  | none => rw [State.homeEdgeBody_of_none h, State.homeEdgeBody_of_none h]
  | some r =>
    obtain ⟨hcfg, hdirection, hcovered, -⟩ := s.reconcile_inputs r
    have hagain : (s.reconcile r).cfg.reconcile.lookup (s.reconcile r).direction (s.reconcile r).covered = some r := by
      rw [hcfg, hdirection, hcovered, h]
    rw [State.homeEdgeBody_of_some h, State.homeEdgeBody_of_some hagain, State.reconcile_reconcile]

end Body

/-! ## The default geometry (R238) -/

/-- An offset that STEPS can hold is where the handler's body leaves the count. -/
theorem State.homeEdgeBody_steps_of_some {s : State} {r : Int}
    (h : s.cfg.reconcile.lookup s.direction s.covered = some r) (hfits : s.cfg.wrapSteps r = r) :
    s.homeEdgeBody.steps = r := by
  rw [State.homeEdgeBody_of_some h, State.reconcile_steps, hfits]

/-- An offset that is not the home reference leaves STATE. -/
theorem State.homeEdgeBody_tilt_of_some {s : State} {r : Int}
    (h : s.cfg.reconcile.lookup s.direction s.covered = some r) (hne : r ≠ 0) :
    s.homeEdgeBody.tilt = s.tilt := by
  rw [State.homeEdgeBody_of_some h, s.reconcile_tilt_of_ne_zero hne]

/-- Settles O40: each row of the default table is an offset that STEPS can hold, and only the home reference is 0. -/
theorem defaultGeometryReanchors : Obligations.DefaultGeometryReanchors := by
  unfold Obligations.DefaultGeometryReanchors
  intro s hwf htable
  obtain ⟨hfar, hfits⟩ := Config.flagWidth_of_wf hwf
  have anchors_zero (h : s.cfg.reconcile.lookup s.direction s.covered = some 0) :
      (s.enterHandler .home).homeEdgeBody.steps = 0 :=
    State.homeEdgeBody_steps_of_some (s := s.enterHandler .home) h (Config.wrapSteps_zero _)
  have anchors_far (h : s.cfg.reconcile.lookup s.direction s.covered = some (-s.cfg.flagWidthSteps)) :
      (s.enterHandler .home).homeEdgeBody.steps = -s.cfg.flagWidthSteps ∧
        (s.enterHandler .home).homeEdgeBody.tilt = s.tilt :=
    ⟨State.homeEdgeBody_steps_of_some (s := s.enterHandler .home) h hfits,
      State.homeEdgeBody_tilt_of_some (s := s.enterHandler .home) h hfar⟩
  refine ⟨_, exec_homeEdge s, fun hdir => ?stopped, fun hdir hlevel => anchors_zero ?cwUncovered,
    fun hdir hlevel => anchors_zero ?ccwCovered, fun hdir hlevel => anchors_far ?cwCovered,
    fun hdir hlevel => anchors_far ?ccwUncovered⟩
  case stopped =>
    have hnone : (s.enterHandler .home).homeEdgeBody = s.enterHandler .home :=
      State.homeEdgeBody_of_none (by simp [hdir])
    rw [hnone]
    exact ⟨rfl, rfl⟩
  case cwUncovered => simp [htable, hdir, State.uncovered_of_ne hlevel]
  case ccwCovered => simp [htable, hdir, State.covered_of_eq hlevel]
  case cwCovered => simp [htable, hdir, State.covered_of_eq hlevel]
  case ccwUncovered => simp [htable, hdir, State.uncovered_of_ne hlevel]

/-- Settles O41: the first run has served the latch, and its body does not move what it has reconciled. -/
theorem homeEdgeIsIdempotent : Obligations.HomeEdgeIsIdempotent := by
  unfold Obligations.HomeEdgeIsIdempotent
  intro s t hrun
  rw [exec_homeEdge] at hrun
  cases hrun
  have hserved : (s.enterHandler .home).homeEdgeBody.pend.get .home = false := by
    rw [State.homeEdgeBody_pend, State.enterHandler_pend, Pending.get_set_same]
  rw [exec_homeEdge, State.enterHandler_of_not_pending hserved, State.homeEdgeBody_homeEdgeBody]

/-- Settles O42: the row is event entry and one event. -/
theorem stallEdgeOnlyEmitsDebug : Obligations.StallEdgeOnlyEmitsDebug := by
  unfold Obligations.StallEdgeOnlyEmitsDebug
  intro s
  rw [exec_stallEdge, State.emit, State.enterHandler, Pending.set]

end Sys2Proof.Machine
end

section
/-! Proofs about field assembly and extraction (spec 30_encoding.md): a placed argument lies in the bits of its field, the
bits of the fields of a well-formed map are apart, and so each bit of a word comes from the base or from one argument. -/

namespace Sys2Proof

/-! ## One field, bit by bit (R91) -/

section Bits

variable (f : Field) (a : Word32) (w : Word20) (k : Nat)

theorem Field.getLsbD_mask : f.mask.getLsbD k = (decide (k < 32) && decide (k < f.n)) := by
  rw [Field.mask, BitVec.getLsbD_ofNat, Nat.testBit_two_pow_sub_one]

theorem Field.getLsbD_bits : f.bits.getLsbD k = (decide (k < 20) && decide (f.lsb ≤ k ∧ k < f.lsb + f.n)) := by
  rw [Field.bits, BitVec.getLsbD_setWidth, BitVec.getLsbD_shiftLeft, Field.getLsbD_mask, Bool.eq_iff_iff]
  simp only [Bool.and_eq_true, Bool.not_eq_true', decide_eq_true_eq, decide_eq_false_iff_not]
  omega

/-- A placed argument lies in the bits of its field. -/
theorem Field.getLsbD_placed :
    ((f.place a).setWidth 20).getLsbD k = (f.bits.getLsbD k && a.getLsbD (k - f.lsb)) := by
  rw [Field.bits, Field.place]
  simp only [BitVec.getLsbD_setWidth, BitVec.getLsbD_shiftLeft, BitVec.getLsbD_and]
  ac_rfl

variable {f} in
theorem Field.getLsbD_extract (h : f.lsb + f.n ≤ 20) :
    (f.extract w).getLsbD k = (decide (k < f.n) && w.getLsbD (f.lsb + k)) := by
  rw [Field.extract, BitVec.getLsbD_and, BitVec.getLsbD_ushiftRight, BitVec.getLsbD_setWidth, Field.getLsbD_mask,
    Bool.eq_iff_iff]
  simp only [Bool.and_eq_true, decide_eq_true_eq]
  exact ⟨fun ⟨⟨_, hbit⟩, _, hin⟩ => ⟨hin, hbit⟩, fun ⟨hin, hbit⟩ => ⟨⟨by omega, hbit⟩, by omega, hin⟩⟩

end Bits

/-! ## A word of a layout, bit by bit -/

/-- A bit of an assembled word is a bit of the base or of an argument that is placed there. -/
theorem getLsbD_assemble (base : Word20) (fields : List Field) (args : List Word32) (k : Nat) :
    (assemble base fields args).getLsbD k = (base.getLsbD k ||
      (fields.zip args).any fun fa => fa.1.bits.getLsbD k && fa.2.getLsbD (k - fa.1.lsb)) := by
  unfold assemble
  generalize fields.zip args = placed
  induction placed generalizing base with
  | nil => simp
  | cons fa placed ih =>
    rw [List.foldl_cons, ih, BitVec.getLsbD_or, Field.getLsbD_placed, List.any_cons, Bool.or_assoc]

theorem RegMap.getLsbD_fieldBits (m : RegMap) (l : Layout) (k : Nat) :
    (m.fieldBits l).getLsbD k = (m.fields l).any fun f => f.bits.getLsbD k := by
  have hfold : ∀ (fs : List Field) (w : Word20),
      (fs.foldl (fun w f => w ||| f.bits) w).getLsbD k = (w.getLsbD k || fs.any fun f => f.bits.getLsbD k) := by
    intro fs
    induction fs with
    | nil => simp
    | cons f fs ih =>
      intro w
      rw [List.foldl_cons, ih, BitVec.getLsbD_or, List.any_cons, Bool.or_assoc]
  rw [RegMap.fieldBits, hfold]
  simp

/-- Words with no bit in common have no bit position in common. -/
theorem getLsbD_of_disjoint {v w : Word20} (h : v &&& w = 0) {k : Nat} (hk : v.getLsbD k = true) :
    w.getLsbD k = false := by
  have hbit := congrArg (·.getLsbD k) h
  simpa [hk] using hbit

/-- What `fieldsFit` checks (R90). -/
theorem fieldsFit_iff {base : Word20} {fields : List Field} :
    fieldsFit base fields = true ↔
      (∀ f ∈ fields, f.lsb + f.n ≤ 20 ∧ f.bits &&& base = 0) ∧
        fields.Pairwise fun f g => f.bits &&& g.bits = 0 := by
  simp [fieldsFit]

theorem RegMap.fieldsFit_of_wf {m : RegMap} (h : m.wf = true) (l : Layout) :
    fieldsFit (m.base l) (m.fields l) = true := by
  refine List.all_eq_true.mp h l ?_
  cases l with
  | drvctrlSd | drvctrlSpi | chopconf | smarten | sgcsconf | drvconf => simp

/-! ## Round trip (R91) and reserved bits (R97) -/

section Assemble

variable {base : Word20} {fields : List Field} {args : List Word32}

/-- Two places of an argument list are the same or have no bit in common. -/
theorem disjoint_of_mem_zip (hfit : fieldsFit base fields = true) (hlen : args.length = fields.length)
    {fa gb : Field × Word32} (hf : fa ∈ fields.zip args) (hg : gb ∈ fields.zip args) (hne : fa ≠ gb) :
    fa.1.bits &&& gb.1.bits = 0 := by
  obtain ⟨-, hpairs⟩ := fieldsFit_iff.mp hfit
  have hzip : (fields.zip args).Pairwise fun fa gb => fa.1.bits &&& gb.1.bits = 0 := by
    rw [← List.pairwise_map (f := Prod.fst) (R := fun f g : Field => f.bits &&& g.bits = 0),
      List.map_fst_zip hlen.ge]
    exact hpairs
  have hsymm : Std.Symm fun fa gb : Field × Word32 => fa.1.bits &&& gb.1.bits = 0 :=
    ⟨fun _ _ h => by rw [BitVec.and_comm]; exact h⟩
  exact hzip.forall hf hg hne

/-- In the bits of a field stands its argument and nothing else. -/
theorem getLsbD_assemble_of_bits (hfit : fieldsFit base fields = true) (hlen : args.length = fields.length)
    {fa : Field × Word32} (hmem : fa ∈ fields.zip args) {k : Nat} (hk : fa.1.bits.getLsbD k = true) :
    (assemble base fields args).getLsbD k = fa.2.getLsbD (k - fa.1.lsb) := by
  obtain ⟨hplaces, -⟩ := fieldsFit_iff.mp hfit
  obtain ⟨-, hbase⟩ := hplaces fa.1 (List.of_mem_zip hmem).1
  rw [getLsbD_assemble, getLsbD_of_disjoint hbase hk, Bool.false_or, Bool.eq_iff_iff, List.any_eq_true]
  constructor
  · rintro ⟨gb, hmem', hbit⟩
    rw [Bool.and_eq_true] at hbit
    by_cases heq : fa = gb
    · exact heq ▸ hbit.2
    · have hapart := getLsbD_of_disjoint (disjoint_of_mem_zip hfit hlen hmem hmem' heq) hk
      simp [hapart] at hbit
  · exact fun hbit => ⟨fa, hmem, by rw [hk, hbit, Bool.and_self]⟩

/-- A field of an assembled word reads back as its argument, masked (R91). -/
theorem extract_assemble (hfit : fieldsFit base fields = true) (hlen : args.length = fields.length)
    {fa : Field × Word32} (hmem : fa ∈ fields.zip args) :
    fa.1.extract (assemble base fields args) = fa.2 &&& fa.1.mask := by
  obtain ⟨hplaces, -⟩ := fieldsFit_iff.mp hfit
  obtain ⟨hend, -⟩ := hplaces fa.1 (List.of_mem_zip hmem).1
  refine BitVec.eq_of_getLsbD_eq fun k hk => ?_
  rw [Field.getLsbD_extract _ _ hend, BitVec.getLsbD_and, Field.getLsbD_mask]
  by_cases hin : k < fa.1.n
  · have hbits : fa.1.bits.getLsbD (fa.1.lsb + k) = true := by
      rw [Field.getLsbD_bits, Bool.and_eq_true, decide_eq_true_eq, decide_eq_true_eq]
      omega
    rw [getLsbD_assemble_of_bits hfit hlen hmem hbits, Nat.add_sub_cancel_left]
    simp [hin, hk]
  · simp [hin]

end Assemble

/-- The word a layout holds, bit by bit (R97): where no field stands it is the base, and the base is clear in the fields. -/
theorem RegMap.holdsWord_iff {m : RegMap} {l : Layout} {w : Word20} :
    m.holdsWord l w = true ↔
      ∀ k, (w.getLsbD k && !(m.fieldBits l).getLsbD k) = (m.base l).getLsbD k := by
  rw [RegMap.holdsWord, beq_iff_eq]
  constructor
  · intro h k
    rw [← h, BitVec.getLsbD_and, BitVec.getLsbD_not]
    by_cases hk : k < 20
    · simp [hk]
    · simp [BitVec.getLsbD_of_ge w k (Nat.le_of_not_lt hk)]
  · intro h
    refine BitVec.eq_of_getLsbD_eq fun k hk => ?_
    rw [← h k, BitVec.getLsbD_and, BitVec.getLsbD_not, decide_eq_true hk, Bool.true_and]

/-- A word of a layout has its base and no bit outside the fields. -/
theorem RegMap.holdsWord_word {m : RegMap} (h : m.wf = true) (l : Layout) (args : List Word32) :
    m.holdsWord l (m.word l args) = true := by
  obtain ⟨hplaces, -⟩ := fieldsFit_iff.mp (RegMap.fieldsFit_of_wf h l)
  rw [RegMap.holdsWord_iff]
  intro k
  rw [RegMap.word, getLsbD_assemble, RegMap.getLsbD_fieldBits]
  cases hfield : (m.fields l).any fun f => f.bits.getLsbD k with
  | true =>
    obtain ⟨f, hmem, hbit⟩ := List.any_eq_true.mp hfield
    rw [getLsbD_of_disjoint (hplaces f hmem).2 hbit, Bool.not_true, Bool.and_false]
  | false =>
    have hnone : ((m.fields l).zip args).any (fun fa => fa.1.bits.getLsbD k && fa.2.getLsbD (k - fa.1.lsb)) = false := by
      rw [List.any_eq_false] at hfield ⊢
      intro fa hmem
      simp [hfield fa.1 (List.of_mem_zip hmem).1]
    rw [hnone, Bool.or_false, Bool.not_false, Bool.and_true]

/-- Settles O17: each bit of a word comes from the base or from one argument. -/
theorem fieldsRoundTripAfterMasking : Obligations.FieldsRoundTripAfterMasking := by
  unfold Obligations.FieldsRoundTripAfterMasking
  refine ⟨fun m l args hwf hlen => ⟨fun f a hmem => ?_, RegMap.holdsWord_word hwf l args⟩, ?_⟩
  · exact extract_assemble (RegMap.fieldsFit_of_wf hwf l) hlen hmem
  · decide

/-! ## The slice of a field, and the word as a sum -/

/-- A slice of a word is a field's value without its leading zeros. -/
theorem Field.extractLsb'_eq {f : Field} (h : f.lsb + f.n ≤ 20) (w : Word20) :
    w.extractLsb' f.lsb f.n = (f.extract w).setWidth f.n := by
  refine BitVec.eq_of_getLsbD_eq fun k hk => ?_
  rw [BitVec.getLsbD_extractLsb', BitVec.getLsbD_setWidth, Field.getLsbD_extract _ _ h]
  simp [hk]

/-- In the place of a field of a word stands its argument, cut to the field's width. -/
theorem RegMap.extractLsb'_word {m : RegMap} (h : m.wf = true) {l : Layout} {args : List Word32}
    (hlen : args.length = (m.fields l).length) {f : Field} {a : Word32} (hmem : (f, a) ∈ (m.fields l).zip args) :
    (m.word l args).extractLsb' f.lsb f.n = a.setWidth f.n := by
  have hfit := RegMap.fieldsFit_of_wf h l
  obtain ⟨hplaces, -⟩ := fieldsFit_iff.mp hfit
  obtain ⟨hend, -⟩ := hplaces f (List.of_mem_zip hmem).1
  rw [Field.extractLsb'_eq hend, RegMap.word, extract_assemble hfit hlen hmem]
  refine BitVec.eq_of_getLsbD_eq fun k hk => ?_
  have hk32 : k < 32 := by omega
  simp only [BitVec.getLsbD_setWidth, BitVec.getLsbD_and, Field.getLsbD_mask, hk, hk32, decide_true, Bool.and_true]

/-- A placed argument fits a word, so the word as a 32-bit number holds it whole. -/
theorem Field.setWidth_placed {f : Field} (h : f.lsb + f.n ≤ 20) (a : Word32) :
    ((f.place a).setWidth 20).setWidth 32 = f.place a := by
  refine BitVec.eq_of_getLsbD_eq fun k hk => ?_
  rw [BitVec.getLsbD_setWidth, Field.getLsbD_placed, Field.getLsbD_bits, Field.place, BitVec.getLsbD_shiftLeft,
    BitVec.getLsbD_and, Field.getLsbD_mask, Bool.eq_iff_iff]
  simp only [Bool.and_eq_true, Bool.not_eq_true', decide_eq_true_eq, decide_eq_false_iff_not]
  constructor
  · rintro ⟨-, ⟨-, hin⟩, hbit⟩
    exact ⟨⟨hk, by omega⟩, hbit, by omega, by omega⟩
  · rintro ⟨⟨-, hge⟩, hbit, -, hlt⟩
    exact ⟨hk, ⟨by omega, by omega⟩, hbit⟩

/-- Field assembly as a 32-bit number (R91, R140). -/
theorem setWidth_assemble {base : Word20} {fields : List Field} (h : fieldsFit base fields = true) (args : List Word32) :
    (assemble base fields args).setWidth 32 =
      (fields.zip args).foldl (fun w fa => w ||| fa.1.place fa.2) (base.setWidth 32) := by
  obtain ⟨hplaces, -⟩ := fieldsFit_iff.mp h
  have hends : ∀ fa ∈ fields.zip args, fa.1.lsb + fa.1.n ≤ 20 := fun fa hmem => (hplaces _ (List.of_mem_zip hmem).1).1
  clear hplaces h
  unfold assemble
  revert hends
  generalize fields.zip args = placed
  induction placed generalizing base with
  | nil => intro _; rfl
  | cons fa placed ih =>
    intro hends
    rw [List.foldl_cons, List.foldl_cons, ih fun gb hmem => hends gb (.tail _ hmem), BitVec.setWidth_or,
      Field.setWidth_placed (hends fa List.mem_cons_self)]

/-! ## Replacing RDSEL (R150) -/

/-- Replacing the RDSEL field leaves a word of DRVCONF one. -/
theorem RegMap.holdsWord_withRdsel {m : RegMap} {w : Word20} (h : m.holdsWord .drvconf w = true) (kind : StatusKind) :
    m.holdsWord .drvconf (m.withRdsel w kind) = true := by
  rw [RegMap.holdsWord_iff] at h ⊢
  intro k
  rw [← h k, RegMap.withRdsel, BitVec.getLsbD_or, BitVec.getLsbD_and, BitVec.getLsbD_not,
    Field.getLsbD_placed]
  cases hfield : (m.fieldBits .drvconf).getLsbD k with
  | true => simp
  | false =>
    have hrdsel : m.rdsel.bits.getLsbD k = false := by
      rw [RegMap.getLsbD_fieldBits, List.any_eq_false] at hfield
      simpa using hfield m.rdsel (by simp [RegMap.fields])
    rw [hrdsel]
    by_cases hk : k < 20
    · rw [decide_eq_true hk]
      simp
    · simp [BitVec.getLsbD_of_ge w k (Nat.le_of_not_lt hk)]

end Sys2Proof
end

section
/-! Proofs about the decoder and the encoder (spec 30_encoding.md): a word that a pattern fits is its fixed bits and the
slices of its fields in their places, so reading the fields and writing the row are inverse to each other. -/

namespace Sys2Proof

/-! ## Frames -/

theorem frameBytes_frame24 (b0 b1 b2 : Byte) : frameBytes (frame24 b0 b1 b2) = [b0, b1, b2] := by
  unfold frameBytes frame24
  rw [BitVec.extractLsb'_append_eq_of_le (by decide : 8 ≤ 16), BitVec.extractLsb'_append_eq_left,
    BitVec.extractLsb'_append_eq_of_le (by decide : 8 ≤ 8), BitVec.extractLsb'_append_eq_right,
    BitVec.extractLsb'_append_eq_right]

theorem decode_frameBytes (f : Format) (v : BitVec 24) : decode f (frameBytes v) = decodeFrame f v := by
  rw [frameBytes, decode, frame24_slices]

/-- What is decoded is a frame of three bytes (R67). -/
theorem decode_ok {f : Format} {bs : List Byte} {i : Instr} (h : decode f bs = .ok i) :
    ∃ v, bs = frameBytes v ∧ decodeFrame f v = .ok i := by
  unfold decode at h
  split at h
  · exact ⟨_, (frameBytes_frame24 _ _ _).symm, h⟩
  · cases h

theorem encode_of_frame {i : Instr} {v : BitVec 24} (h : i.frame? = some v) : encode i = some (frameBytes v) := by
  rw [encode, h, Option.map_some]

theorem frame_of_word {i : Instr} {w : Word20} (h : i.word? = some w) : i.frame? = some (txFrame24 w) := by
  cases i with
  | txframe | rxframe => cases h
  | _ => simp only [Instr.frame?, h]

/-- A frame with four zero bits is the transmit frame of its word (R81). -/
theorem txFrame24_of_padding {v : BitVec 24} (h : v.extractLsb' 20 4 = 0) : txFrame24 (v.extractLsb' 0 20) = v := by
  have hpad : 0#4 = v.extractLsb' 20 4 := h.symm
  rw [txFrame24, hpad, BitVec.extractLsb'_append_extractLsb'_eq_extractLsb' (by decide : 20 = 0 + 20),
    BitVec.extractLsb'_eq_self]

theorem txFrame24_padding (w : Word20) : (txFrame24 w).extractLsb' 20 4 = 0 := BitVec.extractLsb'_append_eq_left

theorem txFrame24_word (w : Word20) : (txFrame24 w).extractLsb' 0 20 = w := BitVec.extractLsb'_append_eq_right

theorem decodeFrame_txFrame (w : Word20) : decodeFrame .txFrame (txFrame24 w) = .ok (.txframe w) := by
  simp only [decodeFrame, txFrame24_padding, txFrame24_word, if_true]

theorem decodeFrame_driverWord (sdoff : Bool) (w : Word20) :
    decodeFrame (.driverWord sdoff) (txFrame24 w) = decodeWord sdoff w := by
  simp only [decodeFrame, txFrame24_padding, txFrame24_word, if_true]

theorem rxFrame24_response (r : Word20) (x : BitVec 4) : (rxFrame24 r x).extractLsb' 4 20 = r :=
  BitVec.extractLsb'_append_eq_left

theorem decodeFrame_rxFrame (r : Word20) (x : BitVec 4) : decodeFrame .rxFrame (rxFrame24 r x) = .ok (.rxframe r x) := by
  have hlow : (rxFrame24 r x).extractLsb' 0 4 = x := BitVec.extractLsb'_append_eq_right
  rw [decodeFrame, rxFrame24_response, hlow]

/-- The top four bits of a receive frame are those of its response. -/
theorem rxFrame24_padding (r : Word20) (x : BitVec 4) : (rxFrame24 r x).extractLsb' 20 4 = r.extractLsb' 16 4 :=
  BitVec.extractLsb'_append_eq_of_le (by decide)

/-- Where a row's frame is read as the row, what encode writes is. -/
theorem decode_encode_of_frame {f : Format} {i : Instr} {v : BitVec 24} (h : i.frame? = some v)
    (hread : decodeFrame f v = .ok i) : ∃ bs, encode i = some bs ∧ decode f bs = .ok i :=
  ⟨frameBytes v, encode_of_frame h, (decode_frameBytes f v).trans hread⟩

/-! ## Responses (R93 to R95) -/

theorem frame_of_response {i : Instr} {r : Word20} (h : i.response? = some r) : i.frame? = some (rxFrame24 r 0) := by
  cases i with
  | respPos | respSg | respSgcs => simp only [Instr.frame?, Instr.word?, h, Option.map_some]
  | _ => cases h

theorem decode_encode_of_response {i : Instr} {r : Word20} {kind : StatusKind} (h : i.response? = some r)
    (hread : decodeResponse kind r = i) : ∃ bs, encode i = some bs ∧ decode (.response kind) bs = .ok i :=
  decode_encode_of_frame (frame_of_response h) (by rw [decodeFrame, rxFrame24_response, hread])

section Response

variable (v : BitVec 10) (sgh se : BitVec 5) (x : BitVec 2) (status : Byte)

/-! The lanes of a response, cut out of its bits. -/

theorem laneStatus_eq : (v ++ x ++ status).extractLsb' 0 8 = status := BitVec.extractLsb'_append_eq_right

theorem laneIgnored_eq : (v ++ x ++ status).extractLsb' 8 2 = x := by
  rw [BitVec.extractLsb'_append_eq_of_le (by decide : 8 ≤ 8), BitVec.extractLsb'_append_eq_right]

theorem laneUpper_eq : (v ++ x ++ status).extractLsb' 10 10 = v := by
  rw [BitVec.extractLsb'_append_eq_of_le (by decide : 8 ≤ 10), BitVec.extractLsb'_append_eq_left]

theorem laneSgh_eq : (sgh ++ se ++ x ++ status).extractLsb' 15 5 = sgh := by
  rw [BitVec.extractLsb'_append_eq_of_le (by decide : 8 ≤ 15), BitVec.extractLsb'_append_eq_of_le (by decide : 2 ≤ 7),
    BitVec.extractLsb'_append_eq_left]

theorem laneSe_eq : (sgh ++ se ++ x ++ status).extractLsb' 10 5 = se := by
  rw [BitVec.extractLsb'_append_eq_of_le (by decide : 8 ≤ 10), BitVec.extractLsb'_append_eq_of_le (by decide : 2 ≤ 2),
    BitVec.extractLsb'_append_eq_right]

theorem decodeResponse_position : decodeResponse .position (v ++ x ++ status) = .respPos v x status := by
  rw [decodeResponse, laneUpper_eq, laneIgnored_eq, laneStatus_eq]

theorem decodeResponse_stallGuardLevel : decodeResponse .stallGuardLevel (v ++ x ++ status) = .respSg v x status := by
  rw [decodeResponse, laneUpper_eq, laneIgnored_eq, laneStatus_eq]

theorem decodeResponse_stallGuardAndCurrent :
    decodeResponse .stallGuardAndCurrent (sgh ++ se ++ x ++ status) = .respSgcs sgh se x status := by
  have hignored := laneIgnored_eq (sgh ++ se) x status
  have hstatus := laneStatus_eq (sgh ++ se) x status
  rw [decodeResponse, laneSgh_eq, laneSe_eq, hignored, hstatus]

end Response

/-! ## Patterns (R84 to R89) -/

/-- Where a pattern's mask covers a slice, a word that it fits has the pattern's bits there. -/
theorem Pattern.slice_of_fits {p : Pattern} {w : Word20} (h : p.fits w = true) (start len : Nat)
    (hcovered : p.mask.extractLsb' start len = BitVec.allOnes len) :
    w.extractLsb' start len = p.value.extractLsb' start len := by
  rw [Pattern.fits, beq_iff_eq] at h
  rw [← h, BitVec.extractLsb'_and, hcovered, BitVec.and_allOnes]

/-- Every DRVCTRL_SD word is a DRVCTRL_SPI word. -/
theorem Pattern.drvctrlSpi_fits_of_sd {w : Word20} (h : Pattern.drvctrlSd.fits w = true) :
    Pattern.drvctrlSpi.fits w = true := by
  have hselect : Pattern.drvctrlSpi.mask = Pattern.drvctrlSd.mask &&& Pattern.drvctrlSpi.mask := by decide
  rw [Pattern.fits, beq_iff_eq] at h ⊢
  rw [hselect, ← BitVec.and_assoc, h]
  decide

/-! ## From a word to its row and back

A word that a layout's pattern fits is written again by the row that is read from it. -/

section Reencode

variable {w : Word20}

theorem word_readDrvctrlSd (h : Pattern.drvctrlSd.fits w = true) : (readDrvctrlSd w).word? = some w := by
  have htop : 0#10 = w.extractLsb' 10 10 := (Pattern.slice_of_fits h 10 10 (by decide)).symm
  have hgap : 0#4 = w.extractLsb' 4 4 := (Pattern.slice_of_fits h 4 4 (by decide)).symm
  rw [readDrvctrlSd, Instr.word?, htop, hgap]
  simp (disch := decide) only [BitVec.extractLsb'_append_extractLsb'_eq_extractLsb', BitVec.extractLsb'_eq_self]

theorem word_readDrvctrlSpi (h : Pattern.drvctrlSpi.fits w = true) : (readDrvctrlSpi w).word? = some w := by
  have htop : 0#2 = w.extractLsb' 18 2 := (Pattern.slice_of_fits h 18 2 (by decide)).symm
  rw [readDrvctrlSpi, Instr.word?, htop]
  simp (disch := decide) only [BitVec.extractLsb'_append_extractLsb'_eq_extractLsb', BitVec.extractLsb'_eq_self]

theorem word_readChopconf (h : Pattern.chopconf.fits w = true) : (readChopconf w).word? = some w := by
  have htop : 4#3 = w.extractLsb' 17 3 := (Pattern.slice_of_fits h 17 3 (by decide)).symm
  rw [readChopconf, Instr.word?, htop]
  simp (disch := decide) only [BitVec.extractLsb'_append_extractLsb'_eq_extractLsb', BitVec.extractLsb'_eq_self]

theorem word_readSmarten (h : Pattern.smarten.fits w = true) : (readSmarten w).word? = some w := by
  have htop : w.extractLsb' 16 4 = 0xA#4 := Pattern.slice_of_fits h 16 4 (by decide)
  have hhigh : w.extractLsb' 12 1 = 0#1 := Pattern.slice_of_fits h 12 1 (by decide)
  have hmid : w.extractLsb' 7 1 = 0#1 := Pattern.slice_of_fits h 7 1 (by decide)
  have hlow : w.extractLsb' 4 1 = 0#1 := Pattern.slice_of_fits h 4 1 (by decide)
  have hwhole : w.extractLsb' 16 4 ++ w.extractLsb' 15 1 ++ w.extractLsb' 13 2 ++ w.extractLsb' 12 1 ++ w.extractLsb' 8 4
      ++ w.extractLsb' 7 1 ++ w.extractLsb' 5 2 ++ w.extractLsb' 4 1 ++ w.extractLsb' 0 4 = w := by
    simp (disch := decide) only [BitVec.extractLsb'_append_extractLsb'_eq_extractLsb', BitVec.extractLsb'_eq_self]
  rw [htop, hhigh, hmid, hlow] at hwhole
  exact congrArg some hwhole

theorem word_readSgcsconf (h : Pattern.sgcsconf.fits w = true) : (readSgcsconf w).word? = some w := by
  have htop : 6#3 = w.extractLsb' 17 3 := (Pattern.slice_of_fits h 17 3 (by decide)).symm
  have hhigh : 0#1 = w.extractLsb' 15 1 := (Pattern.slice_of_fits h 15 1 (by decide)).symm
  have hlow : 0#3 = w.extractLsb' 5 3 := (Pattern.slice_of_fits h 5 3 (by decide)).symm
  rw [readSgcsconf, Instr.word?, htop, hhigh, hlow]
  simp (disch := decide) only [BitVec.extractLsb'_append_extractLsb'_eq_extractLsb', BitVec.extractLsb'_eq_self]

theorem word_readDrvconf (h : Pattern.drvconf.fits w = true) : (readDrvconf w).word? = some w := by
  have htop : 7#3 = w.extractLsb' 17 3 := (Pattern.slice_of_fits h 17 3 (by decide)).symm
  have hgap : 0#1 = w.extractLsb' 11 1 := (Pattern.slice_of_fits h 11 1 (by decide)).symm
  have hlow : 0#4 = w.extractLsb' 0 4 := (Pattern.slice_of_fits h 0 4 (by decide)).symm
  rw [readDrvconf, Instr.word?, htop, hgap, hlow]
  simp (disch := decide) only [BitVec.extractLsb'_append_extractLsb'_eq_extractLsb', BitVec.extractLsb'_eq_self]

end Reencode

/-! ## The register a word selects (R101) -/

section Select

variable {w : Word20} (sdoff : Bool)

theorem decodeWord_of_chopconf (h : w.extractLsb' 17 3 = 4#3) :
    decodeWord sdoff w = readIf .chopconf (readChopconf w) w := by
  simp [decodeWord, h]

theorem decodeWord_of_smarten (h : w.extractLsb' 17 3 = 5#3) :
    decodeWord sdoff w = readIf .smarten (readSmarten w) w := by
  simp [decodeWord, h]

theorem decodeWord_of_sgcsconf (h : w.extractLsb' 17 3 = 6#3) :
    decodeWord sdoff w = readIf .sgcsconf (readSgcsconf w) w := by
  simp [decodeWord, h]

theorem decodeWord_of_drvconf (h : w.extractLsb' 17 3 = 7#3) :
    decodeWord sdoff w = readIf .drvconf (readDrvconf w) w := by
  simp [decodeWord, h]

/-- A DRVCTRL word is read by the device's SDOFF setting (R96 a). -/
theorem decodeWord_of_drvctrl (h : w.extractLsb' 18 2 = 0#2) :
    decodeWord sdoff w =
      if sdoff then readIf .drvctrlSpi (readDrvctrlSpi w) w else readIf .drvctrlSd (readDrvctrlSd w) w := by
  have hselect : w.extractLsb' 17 3 = 0#2 ++ w.extractLsb' 17 1 := by
    rw [← h, BitVec.extractLsb'_append_extractLsb'_eq_extractLsb' (by decide : 18 = 17 + 1)]
  have hnone : ∀ x : BitVec 1, ∀ sel : BitVec 3, sel = 0#2 ++ x →
      sel ≠ 4 ∧ sel ≠ 5 ∧ sel ≠ 6 ∧ sel ≠ 7 ∧ ¬(sel = 2 ∨ sel = 3) := by decide
  obtain ⟨h4, h5, h6, h7, h23⟩ := hnone _ _ hselect
  simp only [decodeWord]
  rw [if_neg h4, if_neg h5, if_neg h6, if_neg h7, if_neg h23]

end Select

theorem readIf_of_fits {p : Pattern} {w : Word20} (h : p.fits w = true) (i : Instr) : readIf p i w = .ok i := if_pos h

theorem readIf_of_not_fits {p : Pattern} {w : Word20} (h : p.fits w = false) (i : Instr) :
    readIf p i w = .error .reservedBitSet := by
  rw [readIf, h, if_neg Bool.false_ne_true]

theorem readIf_ok {p : Pattern} {i j : Instr} {w : Word20} (h : readIf p i w = .ok j) : p.fits w = true ∧ i = j := by
  unfold readIf at h
  split at h
  · exact ⟨‹_›, Except.ok.inj h⟩
  · cases h

/-- The word and the mode of the row that a layout is read as. -/
theorem readIf_inverts {p : Pattern} {i j : Instr} {w : Word20} {sdoff : Bool} (h : readIf p i w = .ok j)
    (hlayout : p ∈ Pattern.all) (hword : p.fits w = true → i.word? = some w)
    (hrow : i.wellFormedIn (.driverWord sdoff) = true) :
    (∃ p ∈ Pattern.all, p.fits w = true) ∧ j.word? = some w ∧ j.wellFormedIn (.driverWord sdoff) = true := by
  obtain ⟨hfits, rfl⟩ := readIf_ok h
  exact ⟨⟨p, hlayout, hfits⟩, hword hfits, hrow⟩

/-- A word that is read as a row has the pattern of a layout, is written by that row, and the row is one of the mode. -/
theorem decodeWord_ok {sdoff : Bool} {w : Word20} {i : Instr} (h : decodeWord sdoff w = .ok i) :
    (∃ p ∈ Pattern.all, p.fits w = true) ∧ i.word? = some w ∧ i.wellFormedIn (.driverWord sdoff) = true := by
  simp only [decodeWord] at h
  split_ifs at h with _ _ _ _ _ hspi
  · exact readIf_inverts h (by simp [Pattern.all]) word_readChopconf rfl
  · exact readIf_inverts h (by simp [Pattern.all]) word_readSmarten rfl
  · exact readIf_inverts h (by simp [Pattern.all]) word_readSgcsconf rfl
  · exact readIf_inverts h (by simp [Pattern.all]) word_readDrvconf rfl
  · exact readIf_inverts h (by simp [Pattern.all]) word_readDrvctrlSpi hspi
  · have hsd : sdoff = false := Bool.eq_false_of_not_eq_true hspi
    exact readIf_inverts h (by simp [Pattern.all]) word_readDrvctrlSd (congrArg not hsd)

/-- Settles O51: a frame is its padding and its word, or its response and its ignored bits, and the word is its row's. -/
theorem encodeInvertsDecode : Obligations.EncodeInvertsDecode := by
  unfold Obligations.EncodeInvertsDecode
  intro f bs i hmode h
  obtain ⟨v, rfl, hread⟩ := decode_ok h
  cases f with
  | response kind => exact absurd rfl (hmode kind)
  | rxFrame =>
    cases hread
    refine ⟨encode_of_frame ?_, rfl⟩
    rw [Instr.frame?, rxFrame24, BitVec.extractLsb'_append_extractLsb'_eq_extractLsb' (by decide : 4 = 0 + 4), BitVec.extractLsb'_eq_self]
  | txFrame =>
    rw [decodeFrame] at hread
    split at hread
    · rename_i hpad
      cases hread
      exact ⟨encode_of_frame (congrArg some (txFrame24_of_padding hpad)), rfl⟩
    · cases hread
  | driverWord sdoff =>
    rw [decodeFrame] at hread
    split at hread
    · rename_i hpad
      obtain ⟨-, hword, hrow⟩ := decodeWord_ok hread
      refine ⟨encode_of_frame ?_, hrow⟩
      rw [frame_of_word hword, txFrame24_of_padding hpad]
    · cases hread

/-! ## From a row to its word and back -/

section Layouts

variable (sdoff : Bool)

theorem decodeWord_drvctrlSd (intpol dedge : BitVec 1) (mres : BitVec 4) :
    decodeWord false (0#10 ++ intpol ++ dedge ++ 0#4 ++ mres) = .ok (.drvctrlSd intpol dedge mres) := by
  have hmask : Pattern.drvctrlSd.mask = BitVec.allOnes 10 ++ 0#1 ++ 0#1 ++ BitVec.allOnes 4 ++ 0#4 := by decide
  have hfits : Pattern.drvctrlSd.fits (0#10 ++ intpol ++ dedge ++ 0#4 ++ mres) = true := by
    rw [Pattern.fits, hmask, beq_iff_eq]
    simp only [BitVec.and_append (v := 4), BitVec.and_append (v := 1), BitVec.and_zero, BitVec.and_allOnes]
    rfl
  have hselect : (0#10 ++ intpol ++ dedge ++ 0#4 ++ mres : Word20).extractLsb' 18 2 = 0#2 :=
    Pattern.slice_of_fits hfits 18 2 (by decide)
  rw [decodeWord_of_drvctrl _ hselect, if_neg Bool.false_ne_true, readIf_of_fits hfits, readDrvctrlSd]
  simp [BitVec.extractLsb'_append_eq_of_le (w := 4), BitVec.extractLsb'_append_eq_of_add_le (w := 4),
    BitVec.extractLsb'_append_eq_of_le (w := 1), BitVec.extractLsb'_append_eq_of_add_le (w := 1)]

theorem drvctrlSpi_fits (pha : BitVec 1) (ca : BitVec 8) (phb : BitVec 1) (cb : BitVec 8) :
    Pattern.drvctrlSpi.fits (0#2 ++ pha ++ ca ++ phb ++ cb) = true := by
  have hmask : Pattern.drvctrlSpi.mask = BitVec.allOnes 2 ++ 0#1 ++ 0#8 ++ 0#1 ++ 0#8 := by decide
  rw [Pattern.fits, hmask, beq_iff_eq]
  simp only [BitVec.and_append (v := 8), BitVec.and_append (v := 1), BitVec.and_zero, BitVec.and_allOnes]
  rfl

theorem drvctrlSpi_select (pha : BitVec 1) (ca : BitVec 8) (phb : BitVec 1) (cb : BitVec 8) :
    (0#2 ++ pha ++ ca ++ phb ++ cb : Word20).extractLsb' 18 2 = 0#2 :=
  Pattern.slice_of_fits (drvctrlSpi_fits pha ca phb cb) 18 2 (by decide)

theorem decodeWord_drvctrlSpi (pha : BitVec 1) (ca : BitVec 8) (phb : BitVec 1) (cb : BitVec 8) :
    decodeWord true (0#2 ++ pha ++ ca ++ phb ++ cb) = .ok (.drvctrlSpi pha ca phb cb) := by
  rw [decodeWord_of_drvctrl _ (drvctrlSpi_select pha ca phb cb), if_pos rfl, readIf_of_fits (drvctrlSpi_fits pha ca phb cb),
    readDrvctrlSpi]
  simp [BitVec.extractLsb'_append_eq_of_le (w := 8), BitVec.extractLsb'_append_eq_of_add_le (w := 8),
    BitVec.extractLsb'_append_eq_of_le (w := 1), BitVec.extractLsb'_append_eq_of_add_le (w := 1)]

theorem decodeWord_chopconf (tbl : BitVec 2) (chm rndtf : BitVec 1) (hdec : BitVec 2) (hend : BitVec 4) (hstrt : BitVec 3)
    (toff : BitVec 4) :
    decodeWord sdoff (4#3 ++ tbl ++ chm ++ rndtf ++ hdec ++ hend ++ hstrt ++ toff) =
      .ok (.chopconf tbl chm rndtf hdec hend hstrt toff) := by
  have hmask : Pattern.chopconf.mask = BitVec.allOnes 3 ++ 0#2 ++ 0#1 ++ 0#1 ++ 0#2 ++ 0#4 ++ 0#3 ++ 0#4 := by decide
  have hfits : Pattern.chopconf.fits (4#3 ++ tbl ++ chm ++ rndtf ++ hdec ++ hend ++ hstrt ++ toff) = true := by
    rw [Pattern.fits, hmask, beq_iff_eq]
    simp only [BitVec.and_append (v := 4), BitVec.and_append (v := 3), BitVec.and_append (v := 2),
      BitVec.and_append (v := 1), BitVec.and_zero, BitVec.and_allOnes]
    rfl
  have hselect : (4#3 ++ tbl ++ chm ++ rndtf ++ hdec ++ hend ++ hstrt ++ toff : Word20).extractLsb' 17 3 = 4#3 :=
    Pattern.slice_of_fits hfits 17 3 (by decide)
  rw [decodeWord_of_chopconf _ hselect, readIf_of_fits hfits, readChopconf]
  simp [BitVec.extractLsb'_append_eq_of_le (w := 4), BitVec.extractLsb'_append_eq_of_add_le (w := 4),
    BitVec.extractLsb'_append_eq_of_le (w := 3), BitVec.extractLsb'_append_eq_of_add_le (w := 3),
    BitVec.extractLsb'_append_eq_of_le (w := 2), BitVec.extractLsb'_append_eq_of_add_le (w := 2),
    BitVec.extractLsb'_append_eq_of_le (w := 1), BitVec.extractLsb'_append_eq_of_add_le (w := 1)]

theorem decodeWord_smarten (seimin : BitVec 1) (sedn : BitVec 2) (semax : BitVec 4) (seup : BitVec 2) (semin : BitVec 4) :
    decodeWord sdoff (0xA#4 ++ seimin ++ sedn ++ 0#1 ++ semax ++ 0#1 ++ seup ++ 0#1 ++ semin) =
      .ok (.smarten seimin sedn semax seup semin) := by
  have hmask : Pattern.smarten.mask =
      BitVec.allOnes 4 ++ 0#1 ++ 0#2 ++ BitVec.allOnes 1 ++ 0#4 ++ BitVec.allOnes 1 ++ 0#2 ++ BitVec.allOnes 1 ++ 0#4 := by
    decide
  have hfits : Pattern.smarten.fits (0xA#4 ++ seimin ++ sedn ++ 0#1 ++ semax ++ 0#1 ++ seup ++ 0#1 ++ semin) = true := by
    rw [Pattern.fits, hmask, beq_iff_eq]
    simp only [BitVec.and_append (v := 4), BitVec.and_append (v := 2), BitVec.and_append (v := 1), BitVec.and_zero,
      BitVec.and_allOnes]
    rfl
  have hselect : (0xA#4 ++ seimin ++ sedn ++ 0#1 ++ semax ++ 0#1 ++ seup ++ 0#1 ++ semin : Word20).extractLsb' 17 3 = 5#3 :=
    Pattern.slice_of_fits hfits 17 3 (by decide)
  rw [decodeWord_of_smarten _ hselect, readIf_of_fits hfits, readSmarten]
  simp [BitVec.extractLsb'_append_eq_of_le (w := 4), BitVec.extractLsb'_append_eq_of_add_le (w := 4),
    BitVec.extractLsb'_append_eq_of_le (w := 2), BitVec.extractLsb'_append_eq_of_add_le (w := 2),
    BitVec.extractLsb'_append_eq_of_le (w := 1), BitVec.extractLsb'_append_eq_of_add_le (w := 1)]

theorem decodeWord_sgcsconf (sfilt : BitVec 1) (sgt : BitVec 7) (cs : BitVec 5) :
    decodeWord sdoff (6#3 ++ sfilt ++ 0#1 ++ sgt ++ 0#3 ++ cs) = .ok (.sgcsconf sfilt sgt cs) := by
  have hmask : Pattern.sgcsconf.mask = BitVec.allOnes 3 ++ 0#1 ++ BitVec.allOnes 1 ++ 0#7 ++ BitVec.allOnes 3 ++ 0#5 := by
    decide
  have hfits : Pattern.sgcsconf.fits (6#3 ++ sfilt ++ 0#1 ++ sgt ++ 0#3 ++ cs) = true := by
    rw [Pattern.fits, hmask, beq_iff_eq]
    simp only [BitVec.and_append (v := 5), BitVec.and_append (v := 3), BitVec.and_append (v := 7),
      BitVec.and_append (v := 1), BitVec.and_zero, BitVec.and_allOnes]
    rfl
  have hselect : (6#3 ++ sfilt ++ 0#1 ++ sgt ++ 0#3 ++ cs : Word20).extractLsb' 17 3 = 6#3 :=
    Pattern.slice_of_fits hfits 17 3 (by decide)
  rw [decodeWord_of_sgcsconf _ hselect, readIf_of_fits hfits, readSgcsconf]
  simp [BitVec.extractLsb'_append_eq_of_le (w := 5), BitVec.extractLsb'_append_eq_of_add_le (w := 5),
    BitVec.extractLsb'_append_eq_of_le (w := 3), BitVec.extractLsb'_append_eq_of_le (w := 7),
    BitVec.extractLsb'_append_eq_of_add_le (w := 7), BitVec.extractLsb'_append_eq_of_le (w := 1),
    BitVec.extractLsb'_append_eq_of_add_le (w := 1)]

theorem decodeWord_drvconf (tst : BitVec 1) (slph slpl : BitVec 2) (diss2g : BitVec 1) (ts2g : BitVec 2)
    (sdoffBit vsense : BitVec 1) (rdsel : BitVec 2) :
    decodeWord sdoff (7#3 ++ tst ++ slph ++ slpl ++ 0#1 ++ diss2g ++ ts2g ++ sdoffBit ++ vsense ++ rdsel ++ 0#4) =
      .ok (.drvconf tst slph slpl diss2g ts2g sdoffBit vsense rdsel) := by
  have hmask : Pattern.drvconf.mask =
      BitVec.allOnes 3 ++ 0#1 ++ 0#2 ++ 0#2 ++ BitVec.allOnes 1 ++ 0#1 ++ 0#2 ++ 0#1 ++ 0#1 ++ 0#2 ++ BitVec.allOnes 4 := by
    decide
  have hfits : Pattern.drvconf.fits
      (7#3 ++ tst ++ slph ++ slpl ++ 0#1 ++ diss2g ++ ts2g ++ sdoffBit ++ vsense ++ rdsel ++ 0#4) = true := by
    rw [Pattern.fits, hmask, beq_iff_eq]
    simp only [BitVec.and_append (v := 4), BitVec.and_append (v := 2), BitVec.and_append (v := 1), BitVec.and_zero,
      BitVec.and_allOnes]
    rfl
  have hselect : (7#3 ++ tst ++ slph ++ slpl ++ 0#1 ++ diss2g ++ ts2g ++ sdoffBit ++ vsense ++ rdsel ++ 0#4 :
      Word20).extractLsb' 17 3 = 7#3 :=
    Pattern.slice_of_fits hfits 17 3 (by decide)
  rw [decodeWord_of_drvconf _ hselect, readIf_of_fits hfits, readDrvconf]
  simp [BitVec.extractLsb'_append_eq_of_le (w := 4), BitVec.extractLsb'_append_eq_of_le (w := 2),
    BitVec.extractLsb'_append_eq_of_add_le (w := 2), BitVec.extractLsb'_append_eq_of_le (w := 1),
    BitVec.extractLsb'_append_eq_of_add_le (w := 1)]

end Layouts

/-- Where a row's word is read as the row, what encode writes is. -/
theorem decode_encode_of_word {i : Instr} {w : Word20} {sdoff : Bool} (h : i.word? = some w)
    (hread : decodeWord sdoff w = .ok i) : ∃ bs, encode i = some bs ∧ decode (.driverWord sdoff) bs = .ok i :=
  decode_encode_of_frame (frame_of_word h) (by rw [decodeFrame_driverWord, hread])

/-- Settles O49: by the mode and the rows that its bits can present. -/
theorem decodeInvertsEncodeInMode : Obligations.DecodeInvertsEncodeInMode := by
  unfold Obligations.DecodeInvertsEncodeInMode
  intro f i hrow
  cases f with
  | txFrame =>
    cases i with
    | txframe w => exact decode_encode_of_frame rfl (decodeFrame_txFrame w)
    | _ => exact absurd hrow Bool.false_ne_true
  | rxFrame =>
    cases i with
    | rxframe r x => exact decode_encode_of_frame rfl (decodeFrame_rxFrame r x)
    | _ => exact absurd hrow Bool.false_ne_true
  | driverWord sdoff =>
    cases i with
    | drvctrlSd intpol dedge mres =>
      obtain rfl : sdoff = false := by simpa [Instr.wellFormedIn] using hrow
      exact decode_encode_of_word rfl (decodeWord_drvctrlSd intpol dedge mres)
    | drvctrlSpi pha ca phb cb =>
      obtain rfl : sdoff = true := hrow
      exact decode_encode_of_word rfl (decodeWord_drvctrlSpi pha ca phb cb)
    | chopconf => exact decode_encode_of_word rfl (decodeWord_chopconf ..)
    | smarten => exact decode_encode_of_word rfl (decodeWord_smarten ..)
    | sgcsconf => exact decode_encode_of_word rfl (decodeWord_sgcsconf ..)
    | drvconf => exact decode_encode_of_word rfl (decodeWord_drvconf ..)
    | _ => exact absurd hrow Bool.false_ne_true
  | response kind =>
    cases i with
    | respPos mstep x status =>
      obtain rfl : kind = .position := eq_of_beq hrow
      exact decode_encode_of_response rfl (decodeResponse_position mstep x status)
    | respSg sg x status =>
      obtain rfl : kind = .stallGuardLevel := eq_of_beq hrow
      exact decode_encode_of_response rfl (decodeResponse_stallGuardLevel sg x status)
    | respSgcs sgh se x status =>
      obtain rfl : kind = .stallGuardAndCurrent := eq_of_beq hrow
      exact decode_encode_of_response rfl (decodeResponse_stallGuardAndCurrent sgh se x status)
    | _ => exact absurd hrow Bool.false_ne_true

/-! ## Without a mode (log 7) -/

theorem orElse_of_ok {a b : Except DecodeError Instr} {i : Instr} (h : a = .ok i) : orElse a b = .ok i := by
  rw [h, orElse]

theorem orElse_of_not_ok {a b : Except DecodeError Instr} (h : ∀ i, a ≠ .ok i) : orElse a b = b := by
  cases a with
  | ok i => exact absurd rfl (h i)
  | error e => rfl

section Untagged

variable {bs : List Byte} {i : Instr}

/-- A layout that a device with SDOFF = 0 reads is found first. -/
theorem decodeAuto_of_driverWord (henc : encode i = some bs)
    (hread : ∃ bs, encode i = some bs ∧ decode (.driverWord false) bs = .ok i) : decodeAuto bs = .ok i := by
  obtain ⟨bs', henc', hread⟩ := hread
  obtain rfl : bs' = bs := Option.some.inj (henc'.symm.trans henc)
  exact orElse_of_ok hread

/-- A DRVCTRL_SPI row whose word is no DRVCTRL_SD word is found second. -/
theorem decodeAuto_drvctrlSpi {pha : BitVec 1} {ca : BitVec 8} {phb : BitVec 1} {cb : BitVec 8}
    (hnarrow : Pattern.drvctrlSd.fits (0#2 ++ pha ++ ca ++ phb ++ cb) = false) :
    decodeAuto (frameBytes (txFrame24 (0#2 ++ pha ++ ca ++ phb ++ cb))) = .ok (.drvctrlSpi pha ca phb cb) := by
  have hsd : decodeWord false (0#2 ++ pha ++ ca ++ phb ++ cb) = .error .reservedBitSet := by
    rw [decodeWord_of_drvctrl _ (drvctrlSpi_select pha ca phb cb), if_neg Bool.false_ne_true, readIf_of_not_fits hnarrow]
  unfold decodeAuto
  simp only [decode_frameBytes, decodeFrame_driverWord, hsd, decodeWord_drvctrlSpi]
  rfl

/-- A transmit frame whose word has no layout's pattern is found third. -/
theorem decodeAuto_txframe {w : Word20} (hnone : ∀ p ∈ Pattern.all, p.fits w = false) :
    decodeAuto (frameBytes (txFrame24 w)) = .ok (.txframe w) := by
  have hlayout : ∀ sdoff j, decodeWord sdoff w ≠ .ok j := by
    intro sdoff j hread
    obtain ⟨⟨p, hp, hfits⟩, -⟩ := decodeWord_ok hread
    exact Bool.false_ne_true ((hnone p hp).symm.trans hfits)
  unfold decodeAuto
  simp only [decode_frameBytes, decodeFrame_driverWord, decodeFrame_txFrame]
  rw [orElse_of_not_ok (hlayout false), orElse_of_not_ok (hlayout true)]
  rfl

/-- A frame that no transmit frame is, is a receive frame. -/
theorem decodeAuto_rxframe {r : Word20} {x : BitVec 4} (h : r.extractLsb' 16 4 ≠ 0) :
    decodeAuto (frameBytes (rxFrame24 r x)) = .ok (.rxframe r x) := by
  unfold decodeAuto
  simp only [decode_frameBytes, decodeFrame_rxFrame]
  simp only [decodeFrame, rxFrame24_padding, if_neg h]
  rfl

end Untagged

/-- Settles O50: each row is found at its own place in the order of the readings. -/
theorem decodeInvertsEncodeUntagged : Obligations.DecodeInvertsEncodeUntagged := by
  unfold Obligations.DecodeInvertsEncodeUntagged
  intro i bs hrow henc
  cases i with
  | txframe w =>
    cases henc
    exact decodeAuto_txframe (by simpa [Instr.wellFormed] using hrow)
  | rxframe r x =>
    cases henc
    exact decodeAuto_rxframe (by simpa [Instr.wellFormed] using hrow)
  | drvctrlSpi pha ca phb cb =>
    cases henc
    exact decodeAuto_drvctrlSpi (by simpa [Instr.wellFormed] using hrow)
  | drvctrlSd | chopconf | smarten | sgcsconf | drvconf =>
    exact decodeAuto_of_driverWord henc (decodeInvertsEncodeInMode (.driverWord false) _ rfl)
  | respPos | respSg | respSgcs => exact absurd hrow Bool.false_ne_true
  | _ => cases henc

/-- Settles O48: closed words, each read by evaluation. -/
theorem sampleWordsDecode : Obligations.SampleWordsDecode := by
  unfold Obligations.SampleWordsDecode
  decide

end Sys2Proof
end

section
/-! Proofs about the format rows and DEMUX (spec 30_encoding.md sections 1 to 4, 42_driver_registers.md section 3): under
the default maps a layout's word has the pattern of the opcode table and a lane is a slice of the response. -/

namespace Sys2Proof

/-! ## The default REGMAP is the opcode table -/

/-- The opcode table's pattern of a layout (R84 to R89). -/
def Layout.pattern : Layout → Pattern
  | .drvctrlSd => .drvctrlSd
  | .drvctrlSpi => .drvctrlSpi
  | .chopconf => .chopconf
  | .smarten => .smarten
  | .sgcsconf => .sgcsconf
  | .drvconf => .drvconf

theorem RegMap.default_wf : RegMap.default.wf = true := by decide

theorem RespMap.default_wf : RespMap.default.wf = true := by decide

/-- The words of a layout under the default map are those of its pattern. -/
theorem RegMap.default_holdsWord (l : Layout) (w : Word20) : RegMap.default.holdsWord l w = l.pattern.fits w := by
  have hmask : ~~~RegMap.default.fieldBits l = l.pattern.mask := by
    cases l with
    | drvctrlSd | drvctrlSpi | chopconf | smarten | sgcsconf | drvconf => decide
  have hbase : RegMap.default.base l = l.pattern.value := by
    cases l with
    | drvctrlSd | drvctrlSpi | chopconf | smarten | sgcsconf | drvconf => rfl
  rw [RegMap.holdsWord, Pattern.fits, hmask, hbase]

/-- A word that is assembled under the default map has its layout's pattern. -/
theorem RegMap.default_fits_word (l : Layout) (args : List Word32) : l.pattern.fits (RegMap.default.word l args) = true := by
  rw [← RegMap.default_holdsWord, RegMap.holdsWord_word RegMap.default_wf]

/-- The argument at each place, cut to its field's width, stands in the field's slice of the word. -/
theorem RegMap.default_slice {l : Layout} {args : List Word32} (hlen : args.length = (RegMap.default.fields l).length)
    (f : Field) (v : BitVec f.n) (k : Nat) (h : ((RegMap.default.fields l).zip args)[k]? = some (f, v.setWidth 32)) :
    (RegMap.default.word l args).extractLsb' f.lsb f.n = v := by
  have hmem := List.mem_of_getElem? h
  have hend := ((fieldsFit_iff.mp (RegMap.fieldsFit_of_wf RegMap.default_wf l)).1 f (List.of_mem_zip hmem).1).1
  rw [RegMap.extractLsb'_word RegMap.default_wf hlen hmem, BitVec.setWidth_setWidth_of_le _ (by omega), BitVec.setWidth_eq]

/-! The word of each layout: the row that is read from it has these fields, and that row writes it. -/

theorem default_word_drvctrlSd (intpol dedge : BitVec 1) (mres : BitVec 4) :
    RegMap.default.word .drvctrlSd [intpol.setWidth 32, dedge.setWidth 32, mres.setWidth 32] =
      0#10 ++ intpol ++ dedge ++ 0#4 ++ mres := by
  have hwrite := word_readDrvctrlSd
    (RegMap.default_fits_word .drvctrlSd [intpol.setWidth 32, dedge.setWidth 32, mres.setWidth 32])
  have hread : readDrvctrlSd (RegMap.default.word .drvctrlSd
      [intpol.setWidth 32, dedge.setWidth 32, mres.setWidth 32]) = .drvctrlSd intpol dedge mres := by
    rw [readDrvctrlSd, Instr.drvctrlSd.injEq]
    exact ⟨RegMap.default_slice rfl RegMap.default.intpol _ 0 rfl, RegMap.default_slice rfl RegMap.default.dedge _ 1 rfl,
      RegMap.default_slice rfl RegMap.default.mres _ 2 rfl⟩
  rw [hread] at hwrite
  exact (Option.some.inj hwrite).symm

theorem default_word_drvctrlSpi (pha : BitVec 1) (ca : BitVec 8) (phb : BitVec 1) (cb : BitVec 8) :
    RegMap.default.word .drvctrlSpi [pha.setWidth 32, ca.setWidth 32, phb.setWidth 32, cb.setWidth 32] =
      0#2 ++ pha ++ ca ++ phb ++ cb := by
  have hwrite := word_readDrvctrlSpi
    (RegMap.default_fits_word .drvctrlSpi [pha.setWidth 32, ca.setWidth 32, phb.setWidth 32, cb.setWidth 32])
  have hread : readDrvctrlSpi (RegMap.default.word .drvctrlSpi
      [pha.setWidth 32, ca.setWidth 32, phb.setWidth 32, cb.setWidth 32]) = .drvctrlSpi pha ca phb cb := by
    rw [readDrvctrlSpi, Instr.drvctrlSpi.injEq]
    exact ⟨RegMap.default_slice rfl RegMap.default.pha _ 0 rfl, RegMap.default_slice rfl RegMap.default.ca _ 1 rfl,
      RegMap.default_slice rfl RegMap.default.phb _ 2 rfl, RegMap.default_slice rfl RegMap.default.cb _ 3 rfl⟩
  rw [hread] at hwrite
  exact (Option.some.inj hwrite).symm

theorem default_word_chopconf (tbl : BitVec 2) (chm rndtf : BitVec 1) (hdec : BitVec 2) (hend : BitVec 4)
    (hstrt : BitVec 3) (toff : BitVec 4) :
    RegMap.default.word .chopconf [tbl.setWidth 32, chm.setWidth 32, rndtf.setWidth 32, hdec.setWidth 32,
        hend.setWidth 32, hstrt.setWidth 32, toff.setWidth 32] =
      4#3 ++ tbl ++ chm ++ rndtf ++ hdec ++ hend ++ hstrt ++ toff := by
  have hwrite := word_readChopconf (RegMap.default_fits_word .chopconf [tbl.setWidth 32, chm.setWidth 32,
    rndtf.setWidth 32, hdec.setWidth 32, hend.setWidth 32, hstrt.setWidth 32, toff.setWidth 32])
  have hread : readChopconf (RegMap.default.word .chopconf [tbl.setWidth 32, chm.setWidth 32, rndtf.setWidth 32,
      hdec.setWidth 32, hend.setWidth 32, hstrt.setWidth 32, toff.setWidth 32]) =
      .chopconf tbl chm rndtf hdec hend hstrt toff := by
    rw [readChopconf, Instr.chopconf.injEq]
    exact ⟨RegMap.default_slice rfl RegMap.default.tbl _ 0 rfl, RegMap.default_slice rfl RegMap.default.chm _ 1 rfl,
      RegMap.default_slice rfl RegMap.default.rndtf _ 2 rfl, RegMap.default_slice rfl RegMap.default.hdec _ 3 rfl,
      RegMap.default_slice rfl RegMap.default.hend _ 4 rfl, RegMap.default_slice rfl RegMap.default.hstrt _ 5 rfl,
      RegMap.default_slice rfl RegMap.default.toff _ 6 rfl⟩
  rw [hread] at hwrite
  exact (Option.some.inj hwrite).symm

theorem default_word_smarten (seimin : BitVec 1) (sedn : BitVec 2) (semax : BitVec 4) (seup : BitVec 2)
    (semin : BitVec 4) :
    RegMap.default.word .smarten [seimin.setWidth 32, sedn.setWidth 32, semax.setWidth 32, seup.setWidth 32,
        semin.setWidth 32] =
      0xA#4 ++ seimin ++ sedn ++ 0#1 ++ semax ++ 0#1 ++ seup ++ 0#1 ++ semin := by
  have hwrite := word_readSmarten (RegMap.default_fits_word .smarten [seimin.setWidth 32, sedn.setWidth 32,
    semax.setWidth 32, seup.setWidth 32, semin.setWidth 32])
  have hread : readSmarten (RegMap.default.word .smarten [seimin.setWidth 32, sedn.setWidth 32, semax.setWidth 32,
      seup.setWidth 32, semin.setWidth 32]) = .smarten seimin sedn semax seup semin := by
    rw [readSmarten, Instr.smarten.injEq]
    exact ⟨RegMap.default_slice rfl RegMap.default.seimin _ 0 rfl, RegMap.default_slice rfl RegMap.default.sedn _ 1 rfl,
      RegMap.default_slice rfl RegMap.default.semax _ 2 rfl, RegMap.default_slice rfl RegMap.default.seup _ 3 rfl,
      RegMap.default_slice rfl RegMap.default.semin _ 4 rfl⟩
  rw [hread] at hwrite
  exact (Option.some.inj hwrite).symm

theorem default_word_sgcsconf (sfilt : BitVec 1) (sgt : BitVec 7) (cs : BitVec 5) :
    RegMap.default.word .sgcsconf [sfilt.setWidth 32, sgt.setWidth 32, cs.setWidth 32] =
      6#3 ++ sfilt ++ 0#1 ++ sgt ++ 0#3 ++ cs := by
  have hwrite := word_readSgcsconf
    (RegMap.default_fits_word .sgcsconf [sfilt.setWidth 32, sgt.setWidth 32, cs.setWidth 32])
  have hread : readSgcsconf (RegMap.default.word .sgcsconf
      [sfilt.setWidth 32, sgt.setWidth 32, cs.setWidth 32]) = .sgcsconf sfilt sgt cs := by
    rw [readSgcsconf, Instr.sgcsconf.injEq]
    exact ⟨RegMap.default_slice rfl RegMap.default.sfilt _ 0 rfl, RegMap.default_slice rfl RegMap.default.sgt _ 1 rfl,
      RegMap.default_slice rfl RegMap.default.cs _ 2 rfl⟩
  rw [hread] at hwrite
  exact (Option.some.inj hwrite).symm

theorem default_word_drvconf (tst : BitVec 1) (slph slpl : BitVec 2) (diss2g : BitVec 1) (ts2g : BitVec 2)
    (sdoff vsense : BitVec 1) (rdsel : BitVec 2) :
    RegMap.default.word .drvconf [tst.setWidth 32, slph.setWidth 32, slpl.setWidth 32, diss2g.setWidth 32,
        ts2g.setWidth 32, sdoff.setWidth 32, vsense.setWidth 32, rdsel.setWidth 32] =
      7#3 ++ tst ++ slph ++ slpl ++ 0#1 ++ diss2g ++ ts2g ++ sdoff ++ vsense ++ rdsel ++ 0#4 := by
  have hwrite := word_readDrvconf (RegMap.default_fits_word .drvconf [tst.setWidth 32, slph.setWidth 32,
    slpl.setWidth 32, diss2g.setWidth 32, ts2g.setWidth 32, sdoff.setWidth 32, vsense.setWidth 32, rdsel.setWidth 32])
  have hread : readDrvconf (RegMap.default.word .drvconf [tst.setWidth 32, slph.setWidth 32, slpl.setWidth 32,
      diss2g.setWidth 32, ts2g.setWidth 32, sdoff.setWidth 32, vsense.setWidth 32, rdsel.setWidth 32]) =
      .drvconf tst slph slpl diss2g ts2g sdoff vsense rdsel := by
    rw [readDrvconf, Instr.drvconf.injEq]
    exact ⟨RegMap.default_slice rfl RegMap.default.tst _ 0 rfl, RegMap.default_slice rfl RegMap.default.slph _ 1 rfl,
      RegMap.default_slice rfl RegMap.default.slpl _ 2 rfl, RegMap.default_slice rfl RegMap.default.diss2g _ 3 rfl,
      RegMap.default_slice rfl RegMap.default.ts2g _ 4 rfl, RegMap.default_slice rfl RegMap.default.sdoff _ 5 rfl,
      RegMap.default_slice rfl RegMap.default.vsense _ 6 rfl, RegMap.default_slice rfl RegMap.default.rdsel _ 7 rfl⟩
  rw [hread] at hwrite
  exact (Option.some.inj hwrite).symm

/-! ## The default RESPMAP cuts a response into the table's lanes (R92 to R95) -/

/-- A lane's value is its slice of the response, at whatever width it is reported. -/
theorem Field.setWidth_extract {f : Field} (h : f.lsb + f.n ≤ 20) (w : Word20) (len : Nat) :
    (f.extract w).setWidth len = (w.extractLsb' f.lsb f.n).setWidth len := by
  refine BitVec.eq_of_getLsbD_eq fun k hk => ?_
  rw [BitVec.getLsbD_setWidth, BitVec.getLsbD_setWidth, BitVec.getLsbD_extractLsb', Field.getLsbD_extract _ _ h]

section Demux

variable (resp : Word20)

theorem default_demux_status (kind : StatusKind) : (demuxResponse .default kind resp).status = resp.extractLsb' 0 8 :=
  (Field.setWidth_extract (f := RespMap.default.status) (by decide) resp 8).trans (BitVec.setWidth_eq _)

theorem default_demux_position : (demuxResponse .default .position resp).position = resp.extractLsb' 10 10 :=
  (Field.setWidth_extract (f := RespMap.default.mstep) (by decide) resp 10).trans (BitVec.setWidth_eq _)

theorem default_demux_sg_of_level : (demuxResponse .default .stallGuardLevel resp).sg = resp.extractLsb' 10 10 :=
  (Field.setWidth_extract (f := RespMap.default.sg) (by decide) resp 10).trans (BitVec.setWidth_eq _)

theorem default_demux_sg_of_current :
    (demuxResponse .default .stallGuardAndCurrent resp).sg = (resp.extractLsb' 15 5).setWidth 10 :=
  Field.setWidth_extract (f := RespMap.default.sgh) (by decide) resp 10

theorem default_demux_cs : (demuxResponse .default .stallGuardAndCurrent resp).cs = resp.extractLsb' 10 5 :=
  (Field.setWidth_extract (f := RespMap.default.se) (by decide) resp 5).trans (BitVec.setWidth_eq _)

/-! The record of each kind by the slices of the response. -/

theorem default_demuxResponse_position :
    demuxResponse .default .position resp = ⟨.position, resp.extractLsb' 10 10, 0, 0, resp.extractLsb' 0 8⟩ := by
  rw [← default_demux_position, ← default_demux_status resp .position]
  rfl

theorem default_demuxResponse_stallGuardLevel :
    demuxResponse .default .stallGuardLevel resp =
      ⟨.stallGuardLevel, 0, resp.extractLsb' 10 10, 0, resp.extractLsb' 0 8⟩ := by
  rw [← default_demux_sg_of_level, ← default_demux_status resp .stallGuardLevel]
  rfl

theorem default_demuxResponse_stallGuardAndCurrent :
    demuxResponse .default .stallGuardAndCurrent resp =
      ⟨.stallGuardAndCurrent, 0, (resp.extractLsb' 15 5).setWidth 10, resp.extractLsb' 10 5, resp.extractLsb' 0 8⟩ := by
  rw [← default_demux_sg_of_current, ← default_demux_cs, ← default_demux_status resp .stallGuardAndCurrent]
  rfl

end Demux

end Sys2Proof

namespace Sys2Proof.Machine

/-! ## The format rows (log 4) -/

section FormatRows

variable (s : State)

theorem exec_txframe (w : Word20) :
    exec (.txframe w) s = .next (s.answer (.frame (0#4 ++ w.extractLsb' 16 4) (w.extractLsb' 8 8) (w.extractLsb' 0 8))) := by
  have hbytes := (packBytes_eq_slices w).symm.trans (packBytes_eq w)
  rw [Prod.mk.injEq, Prod.mk.injEq] at hbytes
  obtain ⟨hfirst, hsecond, hthird⟩ := hbytes
  rw [← hfirst, ← hsecond, ← hthird]
  rfl

theorem exec_rxframe (r : Word20) (x : BitVec 4) : exec (.rxframe r x) s = .next (s.answer (.word r)) := by
  rw [exec, execRxframe, rxFrame24_response]

theorem exec_respPos (v : BitVec 10) (x : BitVec 2) (status : Byte) :
    exec (.respPos v x status) s = .next (s.answer (.status ⟨.position, v, 0, 0, status⟩)) := by
  rw [exec, execRespPos, default_demuxResponse_position, laneUpper_eq, laneStatus_eq]

theorem exec_respSg (v : BitVec 10) (x : BitVec 2) (status : Byte) :
    exec (.respSg v x status) s = .next (s.answer (.status ⟨.stallGuardLevel, 0, v, 0, status⟩)) := by
  rw [exec, execRespSg, default_demuxResponse_stallGuardLevel, laneUpper_eq, laneStatus_eq]

theorem exec_respSgcs (sgh se : BitVec 5) (x : BitVec 2) (status : Byte) :
    exec (.respSgcs sgh se x status) s =
      .next (s.answer (.status ⟨.stallGuardAndCurrent, 0, sgh.setWidth 10, se, status⟩)) := by
  have hstatus := laneStatus_eq (sgh ++ se) x status
  rw [exec, execRespSgcs, default_demuxResponse_stallGuardAndCurrent, laneSgh_eq, laneSe_eq, hstatus]

end FormatRows

/-- Settles O1: a layout's row answers its assembled word, a response's row the record of its lanes. -/
theorem formatRowsGiveTheirContents : Obligations.FormatRowsGiveTheirContents := by
  unfold Obligations.FormatRowsGiveTheirContents
  intro s
  refine ⟨exec_txframe s, exec_rxframe s, fun intpol dedge mres => ?sd, fun pha ca phb cb => ?spi,
    fun tbl chm rndtf hdec hend hstrt toff => ?chopconf, fun seimin sedn semax seup semin => ?smarten,
    fun sfilt sgt cs => ?sgcsconf, fun tst slph slpl diss2g ts2g sdoff vsense rdsel => ?drvconf,
    fun v sgh se x status => ⟨exec_respPos s v x status, exec_respSg s v x status, exec_respSgcs s sgh se x status⟩⟩
  case sd => rw [← default_word_drvctrlSd]; rfl
  case spi => rw [← default_word_drvctrlSpi]; rfl
  case chopconf => rw [← default_word_chopconf]; rfl
  case smarten => rw [← default_word_smarten]; rfl
  case sgcsconf => rw [← default_word_sgcsconf]; rfl
  case drvconf => rw [← default_word_drvconf]; rfl

/-! ## DEMUX (R151) -/

theorem exec_demux (kind : StatusKind) (resp : Word20) (s : State) :
    exec (.demux kind resp) s = .next (s.answer (.status (demuxResponse s.cfg.respMap kind resp))) := rfl

/-- Settles O19: the record DEMUX makes, by the kind; the default lanes are slices. -/
theorem demuxReportsRequestedKind : Obligations.DemuxReportsRequestedKind := by
  unfold Obligations.DemuxReportsRequestedKind
  intro kind resp s
  refine ⟨demuxResponse s.cfg.respMap kind resp, exec_demux kind resp s, rfl, ?lanes, fun hdefault => ?defaults⟩
  case lanes =>
    cases kind with
    | position | stallGuardLevel | stallGuardAndCurrent => exact ⟨rfl, rfl, rfl, rfl⟩
  case defaults =>
    rw [hdefault]
    cases kind with
    | position => exact ⟨default_demux_status resp _, default_demux_position resp, rfl, rfl⟩
    | stallGuardLevel => exact ⟨default_demux_status resp _, rfl, default_demux_sg_of_level resp, rfl⟩
    | stallGuardAndCurrent =>
      exact ⟨default_demux_status resp _, rfl, default_demux_sg_of_current resp, default_demux_cs resp⟩

end Sys2Proof.Machine
end

section
/-! What a step can do to the state, for the invariants (spec 10_state.md section 10): the rows that perform no exchange
leave the link's side of the state alone, the others call a plan, and a line of a plan writes what its name says. -/

namespace Sys2Proof.Machine

/-! ## Rows that perform no exchange -/

/-- What a row that performs no exchange leaves alone: the caches, chip-select, the operations in progress, the wire's
record but for DEBUG events; a count is left or reduced to its width (R24). -/
structure LocalEffect (s t : State) : Prop where
  cfg : t.cfg = s.cfg
  reg : t.reg = s.reg
  valid : t.valid = s.valid
  csLine : t.csLine = s.csLine
  tasks : t.tasks = s.tasks
  port : t.port = s.port
  out : ∃ n, t.out = s.out ++ List.replicate n .debug
  steps : t.steps = s.steps ∨ t.StepsFit

namespace LocalEffect

variable {s t u : State}

theorem refl (s : State) : LocalEffect s s :=
  ⟨rfl, rfl, rfl, rfl, rfl, rfl, ⟨0, (List.append_nil _).symm⟩, .inl rfl⟩

theorem trans (h : LocalEffect s t) (h' : LocalEffect t u) : LocalEffect s u where
  cfg := h'.cfg.trans h.cfg
  reg := h'.reg.trans h.reg
  valid := h'.valid.trans h.valid
  csLine := h'.csLine.trans h.csLine
  tasks := h'.tasks.trans h.tasks
  port := h'.port.trans h.port
  out := by
    obtain ⟨m, hm⟩ := h.out
    obtain ⟨n, hn⟩ := h'.out
    exact ⟨m + n, by rw [hn, hm, List.append_assoc, List.replicate_append_replicate]⟩
  steps := by
    rcases h'.steps with hkept | hfit
    · rcases h.steps with hkept' | hfit
      · exact .inl (hkept.trans hkept')
      · refine .inr ?_
        rw [State.StepsFit, h'.cfg, hkept]
        exact hfit
    · exact .inr hfit

/-- A write of the registers of motion, the state machine, the enable line, the latches and the result. -/
theorem of_registers (s : State) (direction : Direction) (tilt : TiltState) (ticks profileIdx : Word32)
    (profileActive : Bool) (sweepDir : Turn) (tmrPeriod : Word32) (tmrRun enLine dirLine : Bool) (pend : Pending)
    (result : Result) :
    LocalEffect s { s with
      direction := direction, tilt := tilt, ticks := ticks, profileIdx := profileIdx, profileActive := profileActive
      sweepDir := sweepDir, tmrPeriod := tmrPeriod, tmrRun := tmrRun, enLine := enLine, dirLine := dirLine, pend := pend
      result := result } :=
  { refl s with }

/-- A write of STEPS is reduced to its width. -/
theorem of_wrapped (s : State) (stepLine : Bool) (n : Int) :
    LocalEffect s { s with stepLine := stepLine, steps := s.cfg.wrapSteps n } :=
  { refl s with steps := .inr (s.cfg.holdsSteps_wrapSteps n) }

theorem of_answer (s : State) (v : Result) : LocalEffect s (s.answer v) := of_registers ..
theorem of_enter (s : State) (x : TiltState) : LocalEffect s (s.enter x) := of_registers ..
theorem of_programTimer (s : State) (p : Word32) : LocalEffect s (s.programTimer p) := of_registers ..
theorem of_setEnable (s : State) (b : Bool) : LocalEffect s (s.setEnable b) := of_registers ..
theorem of_turnTo (s : State) (d : Direction) : LocalEffect s (s.turnTo d) := of_registers ..
theorem of_countTick (s : State) : LocalEffect s s.countTick := of_registers ..
theorem of_enterHandler (s : State) (k : Source) : LocalEffect s (s.enterHandler k) := of_registers ..
theorem of_pulse (s : State) : LocalEffect s s.pulse := of_wrapped ..
theorem of_debug (s : State) : LocalEffect s (s.emit .debug) := { refl s with out := ⟨1, rfl⟩ }

end LocalEffect

/-! ## The handlers and the state routines -/

section Routines

variable (s : State)

theorem State.testDelayExit_local : LocalEffect s s.testDelayExit := by
  rcases s.testDelayExit_cases with ⟨-, h⟩ | ⟨-, h⟩
  · rw [h]; exact .of_enter ..
  · rw [h]; exact .refl s

theorem State.homeTick_local : LocalEffect s s.homeTick := by
  unfold State.homeTick
  split
  · exact (LocalEffect.of_programTimer ..).trans (.of_turnTo ..)
  · exact .refl s

theorem State.turnedForSweep_local : LocalEffect s s.turnedForSweep :=
  (LocalEffect.of_turnTo s s.sweepDir.toDirection).trans (.of_registers ..)

theorem State.startSweep_local : LocalEffect s s.startSweep := by
  cases h : positiveEntry s.cfg 0 with
  | none =>
    rw [State.startSweep_of_none h]
    exact s.turnedForSweep_local
  | some p =>
    rw [State.startSweep_of_some h]
    exact s.turnedForSweep_local.trans (.of_registers ..)

theorem State.tiltTableTick_local : LocalEffect s s.tiltTableTick := by
  unfold State.tiltTableTick
  split_ifs
  · exact s.startSweep_local
  · exact .refl s
  · exact .of_enter ..

theorem State.testStarted_local (d : Turn) : LocalEffect s (s.testStarted d) := by
  unfold State.testStarted
  split
  · exact ((LocalEffect.of_setEnable ..).trans (.of_programTimer ..)).trans (.of_turnTo ..)
  · exact .refl s

theorem State.testTick_local (d : Turn) (other : TiltState) : LocalEffect s (s.testTick d other) := by
  rw [State.testTick_eq]
  split
  · exact ((s.testStarted_local d).trans (.of_setEnable ..)).trans (.of_enter ..)
  · exact s.testStarted_local d

theorem State.sweepStep_local : LocalEffect s s.sweepStep := by
  have hadvanced : LocalEffect s s.sweepAdvanced := (LocalEffect.of_registers ..).trans (.of_pulse ..)
  cases h : positiveEntry s.cfg (s.profileIdx + 1) with
  | none =>
    rw [State.sweepStep_of_none h]
    exact hadvanced.trans (.of_registers ..)
  | some p =>
    rw [State.sweepStep_of_some h]
    exact hadvanced.trans (.of_registers ..)

theorem State.stepExpiryBody_local : LocalEffect s s.stepExpiryBody := by
  unfold State.stepExpiryBody
  split
  · exact .of_pulse s
  · exact .of_pulse s
  · exact .of_pulse s
  · split
    · exact s.sweepStep_local
    · exact .refl s
  · exact .refl s
  · exact .refl s
  · exact .refl s

theorem State.homeEdgeBody_local : LocalEffect s s.homeEdgeBody := by
  cases h : s.cfg.reconcile.lookup s.direction s.covered with
  | none =>
    rw [State.homeEdgeBody_of_none h]
    exact .refl s
  | some r =>
    rw [State.homeEdgeBody_of_some h]
    have hassigned : LocalEffect s { s with steps := s.cfg.wrapSteps r } := .of_wrapped s s.stepLine r
    by_cases hhomed : s.tilt = .home ∧ r = 0
    · rw [State.reconcile_of_homed hhomed]
      exact hassigned.trans (.of_enter ..)
    · rw [State.reconcile_of_not_homed hhomed]
      exact hassigned

theorem transition_self (a : TiltState) : transition a a = true := by simp [transition]

theorem State.homeTick_tilt : s.homeTick.tilt = s.tilt := by
  unfold State.homeTick
  split
  · rfl
  · rfl

theorem State.testDelayExit_tilt (h : s.tilt = .testDelay) : transition s.tilt s.testDelayExit.tilt = true := by
  rcases s.testDelayExit_cases with ⟨-, hexit⟩ | ⟨-, hexit⟩
  · rw [hexit, h]; rfl
  · rw [hexit]; exact transition_self _

theorem State.startSweep_tilt : s.startSweep.tilt = s.tilt := by
  cases h : positiveEntry s.cfg 0 with
  | none => rw [State.startSweep_of_none h]; rfl
  | some p => rw [State.startSweep_of_some h]; rfl

theorem State.tiltTableTick_tilt (h : s.tilt = .tiltTable) : s.tiltTableTick.tilt = s.tilt := by
  unfold State.tiltTableTick
  split_ifs
  · exact s.startSweep_tilt
  · rfl
  · exact h.symm

@[simp] theorem State.testStarted_tilt (d : Turn) : (s.testStarted d).tilt = s.tilt := by
  unfold State.testStarted
  split
  · rfl
  · rfl

theorem State.testTick_tilt (d : Turn) (other : TiltState) :
    (s.testTick d other).tilt = other ∨ (s.testTick d other).tilt = s.tilt := by
  rw [State.testTick_eq]
  split
  · exact .inl rfl
  · exact .inr (s.testStarted_tilt d)

/-- A counted tick calls DRIVER_INIT from Initialize, a status read on tick 1 of TestDelay, and otherwise is local and
follows the transition table (R209). -/
theorem State.tickRoutine_cases :
    (s.tilt = .initial ∧ s.tickRoutine = s.call (driverInitPlan s.cfg ++ [.enter .home])) ∨
      (s.tilt = .testDelay ∧ ∃ kind, s.tickRoutine = s.call (statusReadPlan kind (s.statusWord kind) ++ [.testDelayExit])) ∨
      (LocalEffect s s.tickRoutine ∧ transition s.tilt s.tickRoutine.tilt = true) := by
  unfold State.tickRoutine
  cases htilt : s.tilt with
  | initial => exact .inl ⟨rfl, rfl⟩
  | home => exact .inr (.inr ⟨s.homeTick_local, by rw [s.homeTick_tilt, htilt]; rfl⟩)
  | testDelay =>
    by_cases hfirst : s.ticks = 1
    · exact .inr (.inl ⟨rfl, _, if_pos hfirst⟩)
    · refine .inr (.inr ?_)
      simp only [State.testDelayTick, if_neg hfirst]
      exact ⟨s.testDelayExit_local, htilt ▸ s.testDelayExit_tilt htilt⟩
  | tiltTable => exact .inr (.inr ⟨s.tiltTableTick_local, by rw [s.tiltTableTick_tilt htilt, htilt]; rfl⟩)
  | testClockwise | testCounterClockwise =>
    refine .inr (.inr ⟨s.testTick_local .., ?_⟩)
    rcases s.testTick_tilt _ _ with hother | hsame
    · rw [hother]; rfl
    · rw [hsame, htilt]; rfl
  | error => exact .inr (.inr ⟨.refl s, by rw [htilt]; rfl⟩)

/-- What a tick can do (R188): nothing in Error, Home where the limiter trips, else the state's routine. -/
theorem State.tickBody_cases :
    (s.tilt = .error ∧ s.tickBody = s) ∨ (limited s.tilt = true ∧ s.tickBody = s.enter .home) ∨
      (s.tilt ≠ .error ∧ s.tickBody = s.countTick.tickRoutine) := by
  unfold State.tickBody
  split_ifs with herror hlimiter
  · exact .inl ⟨herror, rfl⟩
  · exact .inr (.inl ⟨(Bool.and_eq_true_iff.mp hlimiter).1, rfl⟩)
  · exact .inr (.inr ⟨herror, rfl⟩)

/-- A tick calls DRIVER_INIT from Initialize, a status read from TestDelay, and otherwise is local and follows the
transition table. -/
theorem State.tickBody_calls :
    (s.tilt = .initial ∧ s.tickBody = s.countTick.call (driverInitPlan s.cfg ++ [.enter .home])) ∨
      (s.tilt = .testDelay ∧
        ∃ kind, s.tickBody = s.countTick.call (statusReadPlan kind (s.statusWord kind) ++ [.testDelayExit])) ∨
      (LocalEffect s s.tickBody ∧ transition s.tilt s.tickBody.tilt = true) := by
  rcases s.tickBody_cases with ⟨-, h⟩ | ⟨hlimited, h⟩ | ⟨-, h⟩
  · rw [h]; exact .inr (.inr ⟨.refl s, transition_self _⟩)
  · rw [h]
    refine .inr (.inr ⟨.of_enter .., ?_⟩)
    rcases (limited_iff _).mp hlimited with h | h | h | h
    all_goals rw [h]; rfl
  · rw [h]
    rcases s.countTick.tickRoutine_cases with hinit | hread | ⟨hlocal, htable⟩
    · exact .inl hinit
    · exact .inr (.inl hread)
    · exact .inr (.inr ⟨(LocalEffect.of_countTick s).trans hlocal, htable⟩)

end Routines

/-! ## Every row -/

/-- The lines of the operations that can be held (R121, R123, R140, R150, R160, R192, R197). -/
inductive Plan (s : State) : List Micro → Prop where
  | transfer (t : Byte) : Plan s (xferPlan t .first ++ [.returnByte])
  | exchange (t0 t1 t2 : Byte) : Plan s (exchangePlan t0 t1 t2 ++ [.returnFrame])
  | setter (l : Layout) (args : List Word32) : Plan s (setterBody s.cfg.regMap l args ++ [.returnCode .ok])
  | statusRead (kind : StatusKind) : Plan s (statusReadPlan kind (s.statusWord kind) ++ [.returnStatus kind])
  | driverInit : Plan s (driverInitPlan s.cfg)
  | initializeTick : Plan s (driverInitPlan s.cfg ++ [.enter .home])
  | testDelayTick (kind : StatusKind) : Plan s (statusReadPlan kind (s.statusWord kind) ++ [.testDelayExit])

/-- A row is local, or it calls a plan after something local. -/
def LocalOrCalls (s t : State) : Prop :=
  LocalEffect s t ∨ ∃ u todo, LocalEffect s u ∧ Plan u todo ∧ t = u.call todo

section Rows

variable {s t u : State}

theorem LocalOrCalls.of_plan {todo : List Micro} (h : Plan s todo) : LocalOrCalls s (s.call todo) :=
  .inr ⟨s, todo, .refl s, h, rfl⟩

theorem LocalOrCalls.after (h : LocalEffect s u) (h' : LocalOrCalls u t) : LocalOrCalls s t := by
  rcases h' with hlocal | ⟨v, todo, hlocal, hplan, hcall⟩
  · exact .inl (h.trans hlocal)
  · exact .inr ⟨v, todo, h.trans hlocal, hplan, hcall⟩

theorem localOrCalls_setter (l : Layout) (args : List Word32) (s : State) : LocalOrCalls s (s.setter l args) := by
  unfold State.setter
  split
  · exact .of_plan (.setter l args)
  · exact .inl (.of_answer ..)

theorem localOrCalls_testDelayTick (s : State) : LocalOrCalls s s.testDelayTick := by
  unfold State.testDelayTick
  split
  · exact .of_plan (.testDelayTick _)
  · exact .inl s.testDelayExit_local

theorem localOrCalls_tickBody (s : State) : LocalOrCalls s s.tickBody := by
  rcases s.tickBody_calls with ⟨-, h⟩ | ⟨-, kind, h⟩ | ⟨hlocal, -⟩
  · rw [h]; exact .after (.of_countTick s) (.of_plan .initializeTick)
  · rw [h]; exact .after (.of_countTick s) (.of_plan (.testDelayTick kind))
  · exact .inl hlocal

/-- What a row can do. -/
theorem localOrCalls_of_exec {i : Instr} (h : exec i s = .next t) : LocalOrCalls s t := by
  cases i with
  | xferByte b => cases h; exact .of_plan (.transfer b)
  | exchange t0 t1 t2 => cases h; exact .of_plan (.exchange t0 t1 t2)
  | setDrvctrlSd | setDrvctrlSpi | setChopconf | setSmarten | setSgcsconf | setDrvconf =>
    cases h; exact localOrCalls_setter ..
  | statusRead kind => cases h; exact .of_plan (.statusRead kind)
  | driverInit => cases h; exact .of_plan .driverInit
  | setDirection d => cases h; exact .inl (.of_turnTo ..)
  | stepPulse => cases h; exact .inl (.of_pulse s)
  | enter target => cases h; exact .inl (.of_enter ..)
  | tick => cases h; exact .after (.of_enterHandler ..) (localOrCalls_tickBody _)
  | initializeTick => cases h; exact .of_plan .initializeTick
  | homeTick => cases h; exact .inl s.homeTick_local
  | testdelayTick => cases h; exact localOrCalls_testDelayTick s
  | tilttableTick => cases h; exact .inl s.tiltTableTick_local
  | testTickCw | testTickCcw => cases h; exact .inl (s.testTick_local ..)
  | stepExpiry => cases h; exact .inl ((LocalEffect.of_enterHandler ..).trans (State.stepExpiryBody_local _))
  | homeEdge => cases h; exact .inl ((LocalEffect.of_enterHandler ..).trans (State.homeEdgeBody_local _))
  | stallEdge => cases h; exact .inl ((LocalEffect.of_enterHandler ..).trans (.of_debug _))
  | _ => cases h; exact .inl (.of_answer ..)

end Rows

/-! ## The moves of the environment -/

theorem State.guardElapsed_of_guard {s : State} {g : Guard} {rest : List Micro} {rx : Received} {below : List Task}
    (h : s.tasks = ⟨.guard g :: rest, rx⟩ :: below) : s.guardElapsed = { s with tasks := ⟨rest, rx⟩ :: below } := by
  simp only [State.guardElapsed, h]

theorem State.guardElapsed_of_not_guard {s : State}
    (h : ∀ g rest rx below, s.tasks ≠ ⟨.guard g :: rest, rx⟩ :: below) : s.guardElapsed = s := by
  unfold State.guardElapsed
  split
  · exact absurd ‹_› (h _ _ _ _)
  · rfl

/-- A move of the link changes its ports, or lets an operation that stands at a delay pass it. -/
theorem State.linkMove_cases (a : LinkAction) (s : State) :
    (∃ l, s.linkMove a = { s with link := l }) ∨
      ∃ g rest rx below, s.tasks = ⟨.guard g :: rest, rx⟩ :: below ∧
        s.linkMove a = { s with tasks := ⟨rest, rx⟩ :: below } := by
  cases a with
  | txe b | bsy b | received b => exact .inl ⟨_, rfl⟩
  | elapsed =>
    by_cases hguard : ∃ g rest rx below, s.tasks = ⟨.guard g :: rest, rx⟩ :: below
    · obtain ⟨g, rest, rx, below, h⟩ := hguard
      exact .inr ⟨g, rest, rx, below, h, State.guardElapsed_of_guard h⟩
    · refine .inl ⟨s.link, State.guardElapsed_of_not_guard fun g rest rx below h => hguard ⟨g, rest, rx, below, h⟩⟩

/-- What is left of a step once its move is taken, where the block may run these rows. -/
inductive StepEffect (rows : Instr → Prop) (s : State) : State → Prop where
  /-- The link moves. -/
  | link (a : LinkAction) : StepEffect rows s (s.linkMove a)
  /-- An input moves, or reset is released, or nothing happens. -/
  | inputs (homePrev sgPrev homeIn sgIn resetHeld : Bool) (pend : Pending) :
    StepEffect rows s { s with
      homePrev := homePrev, sgPrev := sgPrev, homeIn := homeIn, sgIn := sgIn, resetHeld := resetHeld, pend := pend }
  /-- Reset is asserted. -/
  | reset : StepEffect rows s s.holdInReset
  /-- A row runs. -/
  | row (i : Instr) (t : State) (hrow : rows i) (h : exec i s = .next t) : StepEffect rows s t
  /-- The operation in progress goes on. -/
  | resume : StepEffect rows s s.resume

section Effects

variable {s t : State} {rows : Instr → Prop}

theorem stepEffect_of_deliver {e : EnvEvent} (h : s.deliver e = .next t) : StepEffect rows s t := by
  cases e with
  | tickEv =>
    simp only [State.deliver] at h
    split at h
    · cases h
    · cases h; exact .inputs s.homePrev s.sgPrev s.homeIn s.sgIn s.resetHeld (s.pend.set .tick true)
  | timerExpiry =>
    cases h
    unfold State.timerExpires
    split
    · exact .inputs ..
    · exact .inputs s.homePrev s.sgPrev s.homeIn s.sgIn s.resetHeld s.pend
  | homeLevel b =>
    cases h
    unfold State.homeInput
    split
    · exact .inputs b s.sgPrev b s.sgIn s.resetHeld s.pend
    · exact .inputs ..
  | sgLevel b =>
    cases h
    unfold State.sgInput
    split
    · exact .inputs s.homePrev b s.homeIn b s.resetHeld s.pend
    · exact .inputs ..
  | reset asserted =>
    cases asserted with
    | true => cases h; exact .reset
    | false =>
      cases h
      unfold State.releaseReset
      split
      · exact .inputs s.homeIn s.sgIn s.homeIn s.sgIn false s.pend
      · exact .inputs s.homePrev s.sgPrev s.homeIn s.sgIn s.resetHeld s.pend

/-- What a step does, whatever a harness presents. -/
theorem step_effect (h : step s = .next t) :
    ∃ port ms n, StepEffect (fun _ => True) { s with port := port, script := ms, moveCount := n } t := by
  rcases step_cases h with ⟨c, i, -, -, -, hexec⟩ | ⟨-, ms, n, ⟨a, rfl⟩ | ⟨e, hdeliver⟩ | ⟨-, rfl⟩ |
    ⟨-, first, k, -, hexec⟩ | ⟨-, rfl⟩⟩
  · exact ⟨none, s.script, s.moveCount, .row i t trivial hexec⟩
  · exact ⟨s.port, ms, n, .link a⟩
  · exact ⟨s.port, ms, n, stepEffect_of_deliver hdeliver⟩
  · exact ⟨s.port, ms, n, .inputs s.homePrev s.sgPrev s.homeIn s.sgIn s.resetHeld s.pend⟩
  · exact ⟨s.port, ms, n, .row _ t trivial hexec⟩
  · exact ⟨s.port, ms, n, .resume⟩

/-- The handlers the block serves by itself: TICK only where no operation is in progress (R261). -/
def ServedRow (s : State) (i : Instr) : Prop := ∃ k, i = handlerOf k ∧ (k = .tick → s.tasks = [])

/-- What a step does where the block runs by its events alone. -/
theorem step_effect_of_harnessFree (hfree : s.harnessFree) (h : step s = .next t) :
    ∃ ms n, StepEffect (ServedRow s) { s with script := ms, moveCount := n } t := by
  rcases step_cases h with ⟨c, i, hport, -, -, -⟩ | ⟨-, ms, n, ⟨a, rfl⟩ | ⟨e, hdeliver⟩ | ⟨-, rfl⟩ |
    ⟨-, first, k, hselect, hexec⟩ | ⟨-, rfl⟩⟩
  · exact absurd (hfree.symm.trans hport) (by simp)
  · exact ⟨ms, n, .link a⟩
  · exact ⟨ms, n, stepEffect_of_deliver hdeliver⟩
  · exact ⟨ms, n, .inputs s.homePrev s.sgPrev s.homeIn s.sgIn s.resetHeld s.pend⟩
  · exact ⟨ms, n, .row _ t ⟨k, rfl, fun hk => ((State.selectSource_some hselect).2 hk).1⟩ hexec⟩
  · exact ⟨ms, n, .resume⟩

end Effects

/-! ## What no step changes -/

theorem State.resume_cases (s : State) :
    (s.tasks = [] ∧ s.resume = s) ∨
      ∃ todo rx below, s.tasks = ⟨todo, rx⟩ :: below ∧ s.resume = runMicros todo rx { s with tasks := below } := by
  cases h : s.tasks with
  | nil => exact .inl ⟨rfl, by rw [State.resume, h]⟩
  | cons task below => exact .inr ⟨task.todo, task.rx, below, rfl, State.resume_of_tasks h⟩

section Kept

variable {s t : State} {rows : Instr → Prop}

theorem runMicros_cfg (l : List Micro) (rx : Received) (s : State) : (runMicros l rx s).cfg = s.cfg :=
  (runMicros_frame l rx s).1

theorem runMicros_steps (l : List Micro) (rx : Received) (s : State) : (runMicros l rx s).steps = s.steps := by
  obtain ⟨-, -, hsteps, -⟩ := runMicros_frame l rx s
  exact hsteps

theorem runMicros_port (l : List Micro) (rx : Received) (s : State) : (runMicros l rx s).port = s.port := by
  obtain ⟨-, -, -, -, -, -, -, -, -, -, -, -, -, -, -, hport, -⟩ := runMicros_frame l rx s
  exact hport

/-- A timer, its direction and its period are written by no line of an operation. -/
theorem runMicros_timer (l : List Micro) (rx : Received) (s : State) :
    (runMicros l rx s).direction = s.direction ∧ (runMicros l rx s).tmrPeriod = s.tmrPeriod ∧
      (runMicros l rx s).tmrRun = s.tmrRun := by
  obtain ⟨-, hdirection, -, -, -, hperiod, hrun, -⟩ := runMicros_frame l rx s
  exact ⟨hdirection, hperiod, hrun⟩

theorem LocalOrCalls.cfg_port (h : LocalOrCalls s t) : t.cfg = s.cfg ∧ t.port = s.port := by
  rcases h with hlocal | ⟨u, todo, hlocal, -, rfl⟩
  · exact ⟨hlocal.cfg, hlocal.port⟩
  · exact ⟨(runMicros_cfg ..).trans hlocal.cfg, (runMicros_port ..).trans hlocal.port⟩

/-- A step changes neither the configuration nor what stands on the port once its move is taken. -/
theorem StepEffect.cfg_port (h : StepEffect rows s t) : t.cfg = s.cfg ∧ t.port = s.port := by
  cases h with
  | link a =>
    rcases s.linkMove_cases a with ⟨l, h⟩ | ⟨g, rest, rx, below, -, h⟩
    · rw [h]; exact ⟨rfl, rfl⟩
    · rw [h]; exact ⟨rfl, rfl⟩
  | inputs | reset => exact ⟨rfl, rfl⟩
  | row i t _ h => exact (localOrCalls_of_exec h).cfg_port
  | resume =>
    rcases s.resume_cases with ⟨-, h⟩ | ⟨todo, rx, below, -, h⟩
    · rw [h]; exact ⟨rfl, rfl⟩
    · rw [h]; exact ⟨runMicros_cfg .., runMicros_port ..⟩

/-- A block that runs by its events alone goes on so. -/
theorem harnessFree_of_step (hfree : s.harnessFree) (h : step s = .next t) : t.harnessFree := by
  obtain ⟨ms, n, heffect⟩ := step_effect_of_harnessFree hfree h
  exact heffect.cfg_port.2.trans hfree

/-- Settles O52: no effect of a step writes the configuration. -/
theorem configurationNeverChanges : Obligations.ConfigurationNeverChanges := by
  unfold Obligations.ConfigurationNeverChanges
  intro s t h
  obtain ⟨port, ms, n, heffect⟩ := step_effect h
  exact heffect.cfg_port.1

/-- A row leaves the count or reduces it to its width, an operation in progress leaves it, and reset writes 0. -/
theorem StepEffect.steps (h : StepEffect rows s t) : t.steps = s.steps ∨ t.StepsFit := by
  cases h with
  | link a =>
    rcases s.linkMove_cases a with ⟨l, h⟩ | ⟨g, rest, rx, below, -, h⟩
    · rw [h]; exact .inl rfl
    · rw [h]; exact .inl rfl
  | inputs => exact .inl rfl
  | reset =>
    have hzero := s.cfg.holdsSteps_wrapSteps 0
    rw [Config.wrapSteps_zero] at hzero
    exact .inr hzero
  | row i t _ hexec =>
    rcases localOrCalls_of_exec hexec with hlocal | ⟨u, todo, hlocal, -, rfl⟩
    · exact hlocal.steps
    · rw [State.StepsFit, State.call, runMicros_steps, runMicros_cfg]
      exact hlocal.steps
  | resume =>
    rcases s.resume_cases with ⟨-, h⟩ | ⟨todo, rx, below, -, h⟩
    · rw [h]; exact .inl rfl
    · rw [h, runMicros_steps]; exact .inl rfl

/-- Settles O57: a step leaves the count or reduces it to its width. -/
theorem stepCountStaysInWidth : Obligations.StepCountStaysInWidth := by
  unfold Obligations.StepCountStaysInWidth
  intro s t hfit h
  obtain ⟨port, ms, n, heffect⟩ := step_effect h
  refine heffect.steps.elim (fun hkept => ?_) id
  rw [State.StepsFit, heffect.cfg_port.1, hkept]
  exact hfit

end Kept

/-! ## What a line of an operation writes -/

/-- What a line writes when it is done, by what the invariants look at. -/
structure LineEffect (m : Micro) (s t : State) : Prop where
  cfg : t.cfg = s.cfg
  tasks : t.tasks = s.tasks
  profileIdx : t.profileIdx = s.profileIdx
  csLine : t.csLine = m.chipSelectLevel s.csLine
  caches : (∃ r w, m = .commit r w ∧ t = s.commit r w) ∨ (t.reg = s.reg ∧ t.valid = s.valid)
  tilt : (∃ x, m = .enter x ∧ t = s.enter x) ∨ (m = .testDelayExit ∧ t = s.testDelayExit) ∨
    (t.tilt = s.tilt ∧ t.ticks = s.ticks ∧ t.profileActive = s.profileActive)
  out : t.out = s.out ++ wireEvent m ∨ ∃ p sg cs status, wireEvent m = [] ∧ t.out = s.out ++ [.telemetry p sg cs status]

section Lines

variable {m : Micro} {rx rx' : Received} {s t : State}

/-- A line that is silent on the wire and writes the link's ports, the enable line or the result only. -/
theorem LineEffect.of_silent (hlevel : m.chipSelectLevel s.csLine = s.csLine) (hwire : wireEvent m = []) (l : Link)
    (ms : List Move) (enLine : Bool) (result : Result) :
    LineEffect m s { s with link := l, script := ms, enLine := enLine, result := result } :=
  ⟨rfl, rfl, rfl, hlevel.symm, .inr ⟨rfl, rfl⟩, .inr (.inr ⟨rfl, rfl, rfl⟩), .inl (by rw [hwire, List.append_nil])⟩

/-- The effect of a line that is done. -/
theorem Micro.lineEffect_of_done (h : m.attempt rx s = .done rx' t) : LineEffect m s t := by
  have hdone := Micro.attempt_done h
  cases m with
  | wait w => obtain ⟨-, l, ms, -, rfl⟩ := hdone; exact .of_silent rfl rfl l ms s.enLine s.result
  | guard g => obtain ⟨-, l, ms, rfl⟩ := hdone; exact .of_silent rfl rfl l ms s.enLine s.result
  | recv slot => obtain ⟨-, rfl⟩ := hdone; exact .of_silent rfl rfl _ s.script s.enLine s.result
  | enable b => obtain ⟨-, rfl⟩ := hdone; exact .of_silent rfl rfl s.link s.script b s.result
  | returnByte | returnFrame | returnCode c | returnStatus k =>
    obtain ⟨-, rfl⟩ := hdone; exact .of_silent rfl rfl s.link s.script s.enLine _
  | chipSelect b | send b =>
    obtain ⟨-, rfl⟩ := hdone
    exact ⟨rfl, rfl, rfl, rfl, .inr ⟨rfl, rfl⟩, .inr (.inr ⟨rfl, rfl, rfl⟩), .inl rfl⟩
  | telemetry k =>
    obtain ⟨-, rfl⟩ := hdone
    exact ⟨rfl, rfl, rfl, rfl, .inr ⟨rfl, rfl⟩, .inr (.inr ⟨rfl, rfl, rfl⟩), .inr ⟨_, _, _, _, rfl, rfl⟩⟩
  | commit r w =>
    obtain ⟨-, rfl⟩ := hdone
    exact ⟨rfl, rfl, rfl, rfl, .inl ⟨r, w, rfl, rfl⟩, .inr (.inr ⟨rfl, rfl, rfl⟩), .inl (List.append_nil _).symm⟩
  | enter x =>
    obtain ⟨-, rfl⟩ := hdone
    exact ⟨rfl, rfl, rfl, rfl, .inr ⟨rfl, rfl⟩, .inl ⟨x, rfl, rfl⟩, .inl (List.append_nil _).symm⟩
  | testDelayExit =>
    obtain ⟨-, rfl⟩ := hdone
    have hlocal := s.testDelayExit_local
    have hkept : s.testDelayExit.profileIdx = s.profileIdx ∧ s.testDelayExit.out = s.out := by
      rcases s.testDelayExit_cases with ⟨-, h⟩ | ⟨-, h⟩
      · rw [h]; exact ⟨rfl, rfl⟩
      · rw [h]; exact ⟨rfl, rfl⟩
    exact ⟨hlocal.cfg, hlocal.tasks, hkept.1, hlocal.csLine, .inr ⟨hlocal.reg, hlocal.valid⟩, .inr (.inl ⟨rfl, rfl⟩),
      .inl (hkept.2.trans (List.append_nil _).symm)⟩

end Lines

end Sys2Proof.Machine
end

section
/-! Proofs about the caches as an invariant (spec 10_state.md section 2, 30_encoding.md section 6): each plan commits words
of its register, so every cache that is written holds one. -/

namespace Sys2Proof.Machine

/-! ## The caches -/

section Caches

variable {s t u : State}

/-- Every commit among these lines writes a word of its register. -/
def CommitsFormed (m : RegMap) (l : List Micro) : Prop := ∀ x ∈ l, microFormed m x = true

theorem CommitsFormed.append {m : RegMap} {a b : List Micro} (ha : CommitsFormed m a) (hb : CommitsFormed m b) :
    CommitsFormed m (a ++ b) := fun x hx => (List.mem_append.mp hx).elim (ha x) (hb x)

theorem CommitsFormed.tail {m : RegMap} {x : Micro} {l : List Micro} (h : CommitsFormed m (x :: l)) : CommitsFormed m l :=
  fun y hy => h y (.tail x hy)

/-- The invariant looks at the configuration, the caches and the operations in progress. -/
theorem State.CachesFormed.of_kept (h : s.CachesFormed) (hcfg : t.cfg = s.cfg) (hreg : t.reg = s.reg)
    (hvalid : t.valid = s.valid) (htasks : t.tasks = s.tasks) : t.CachesFormed := by
  rw [State.CachesFormed, hcfg, hreg, hvalid, htasks]
  exact h

theorem State.CachesFormed.commit (h : s.CachesFormed) {r : RegId} {w : Word20} (hw : wordOf s.cfg.regMap r w = true) :
    (s.commit r w).CachesFormed := by
  obtain ⟨hcaches, htasks⟩ := h
  refine ⟨fun q hq => ?_, htasks⟩
  by_cases heq : q = r
  · subst heq
    rw [State.commit_reg, PerReg.get_set_same]
    exact hw
  · rw [State.commit_valid, PerReg.get_set_other _ _ heq] at hq
    rw [State.commit_reg, PerReg.get_set_other _ _ heq]
    exact hcaches q hq

/-- With more lines to come on top of the operations in progress. -/
theorem State.CachesFormed.push (h : s.CachesFormed) {todo : List Micro} (hl : CommitsFormed s.cfg.regMap todo)
    (rx : Received) : (s.hold todo rx).CachesFormed := by
  obtain ⟨hcaches, htasks⟩ := h
  refine ⟨hcaches, fun task htask => ?_⟩
  rcases List.mem_cons.mp htask with rfl | hbelow
  · exact hl
  · exact htasks task hbelow

/-- A segment of an operation whose commits are formed. -/
theorem State.CachesFormed.run {l : List Micro} (h : s.CachesFormed) (hl : CommitsFormed s.cfg.regMap l) (rx : Received) :
    (runMicros l rx s).CachesFormed := by
  refine runMicros_induct (P := fun l _ u => u.CachesFormed ∧ CommitsFormed u.cfg.regMap l) (Q := State.CachesFormed)
    ?done ?held ?ends l rx s ⟨h, hl⟩
  case done =>
    rintro m rest rx u rx' v ⟨hu, hrest⟩ hm
    have hline := Micro.lineEffect_of_done hm
    refine ⟨?_, hline.cfg ▸ hrest.tail⟩
    rcases hline.caches with ⟨r, w, rfl, rfl⟩ | ⟨hreg, hvalid⟩
    · exact hu.commit (hrest _ List.mem_cons_self)
    · exact hu.of_kept hline.cfg hreg hvalid hline.tasks
  case held =>
    rintro m rest rx u v ⟨hu, hrest⟩ hm
    obtain ⟨-, l, ms, rfl⟩ := Micro.attempt_held hm
    exact State.CachesFormed.push (s := { u with link := l, script := ms }) hu hrest rx
  case ends => exact fun _ _ hu => hu.1

/-! ## The words the plans commit -/

/-- A layout's word is a word of its register (R83). -/
theorem wordOf_of_holdsWord {m : RegMap} {l : Layout} {w : Word20} (h : m.holdsWord l w = true) :
    wordOf m (layoutReg l) w = true := by
  cases l with
  | drvctrlSd => exact Bool.or_eq_true_iff.mpr (.inl h)
  | drvctrlSpi => exact Bool.or_eq_true_iff.mpr (.inr h)
  | chopconf | smarten | sgcsconf | drvconf => exact h

theorem commitsFormed_exchangePlan (m : RegMap) (t0 t1 t2 : Byte) : CommitsFormed m (exchangePlan t0 t1 t2) :=
  List.all_eq_true.mp (show (exchangePlan t0 t1 t2).all (microFormed m) = true from rfl)

theorem commitsFormed_sendWordPlan (m : RegMap) (w : Word20) : CommitsFormed m (sendWordPlan w) :=
  commitsFormed_exchangePlan m _ _ _

theorem commitsFormed_setterBody {m : RegMap} (h : m.wf = true) (l : Layout) (args : List Word32) :
    CommitsFormed m (setterBody m l args) :=
  (commitsFormed_sendWordPlan m _).append
    (List.forall_mem_singleton.mpr (wordOf_of_holdsWord (RegMap.holdsWord_word h l args)))

theorem commitsFormed_setterPlan {m : RegMap} (h : m.wf = true) (l : Layout) (args : List Word32) :
    CommitsFormed m (setterPlan m l args) := by
  unfold setterPlan
  split
  · exact commitsFormed_setterBody h l args
  · exact fun _ hx => absurd hx List.not_mem_nil

theorem commitsFormed_driverInitPlan {c : Config} (h : c.regMap.wf = true) :
    CommitsFormed c.regMap (driverInitPlan c) := by
  rw [driverInitPlan_eq]
  refine CommitsFormed.append (fun x hx => ?_) (List.forall_mem_singleton.mpr rfl)
  obtain ⟨p, -, hp⟩ := List.mem_flatMap.mp hx
  exact commitsFormed_setterPlan h _ _ x hp

theorem commitsFormed_statusReadPlan {m : RegMap} {w : Word20} (h : m.holdsWord .drvconf w = true) (kind : StatusKind) :
    CommitsFormed m (statusReadPlan kind w) := by
  rw [statusReadPlan_eq]
  refine (commitsFormed_sendWordPlan m w).append (List.forall_mem_cons.mpr ⟨h, ?_⟩)
  exact (commitsFormed_sendWordPlan m w).append (List.forall_mem_singleton.mpr rfl)

/-- The base of a status read is a DRVCONF word, cached or literal, and stays one with RDSEL replaced (R150). -/
theorem State.CachesFormed.statusWord (h : s.CachesFormed) (hmap : s.cfg.mapFits = true) (kind : StatusKind) :
    s.cfg.regMap.holdsWord .drvconf (s.statusWord kind) = true := by
  refine RegMap.holdsWord_withRdsel ?_ kind
  split
  · exact h.1 .drvconf ‹_›
  · exact (Bool.and_eq_true_iff.mp hmap).2

theorem Plan.commitsFormed {todo : List Micro} (hplan : Plan s todo) (h : s.CachesFormed) (hmap : s.cfg.mapFits = true) :
    CommitsFormed s.cfg.regMap todo := by
  have hwf : s.cfg.regMap.wf = true := (Bool.and_eq_true_iff.mp hmap).1
  have hlast : ∀ x, microFormed s.cfg.regMap x = true → CommitsFormed s.cfg.regMap [x] := fun x hx =>
    List.forall_mem_singleton.mpr hx
  cases hplan with
  | transfer t => exact List.all_eq_true.mp (show (xferPlan t .first ++ [Micro.returnByte]).all _ = true from rfl)
  | exchange t0 t1 t2 => exact (commitsFormed_exchangePlan _ t0 t1 t2).append (hlast _ rfl)
  | setter l args => exact (commitsFormed_setterBody hwf l args).append (hlast _ rfl)
  | statusRead kind => exact (commitsFormed_statusReadPlan (h.statusWord hmap kind) kind).append (hlast _ rfl)
  | driverInit => exact commitsFormed_driverInitPlan hwf
  | initializeTick => exact (commitsFormed_driverInitPlan hwf).append (hlast _ rfl)
  | testDelayTick kind => exact (commitsFormed_statusReadPlan (h.statusWord hmap kind) kind).append (hlast _ rfl)

/-! ## Every effect of a step -/

theorem LocalEffect.cachesFormed (hlocal : LocalEffect s t) (h : s.CachesFormed) : t.CachesFormed :=
  h.of_kept hlocal.cfg hlocal.reg hlocal.valid hlocal.tasks

theorem StepEffect.cachesFormed {rows : Instr → Prop} (heffect : StepEffect rows s t) (hmap : s.cfg.mapFits = true)
    (h : s.CachesFormed) : t.CachesFormed := by
  cases heffect with
  | link a =>
    rcases s.linkMove_cases a with ⟨l, hmove⟩ | ⟨g, rest, rx, below, htasks, hmove⟩
    · rw [hmove]; exact h
    · rw [hmove]
      obtain ⟨hcaches, hcommits⟩ := h
      rw [htasks, List.forall_mem_cons] at hcommits
      obtain ⟨htop, hbelow⟩ := hcommits
      exact ⟨hcaches, List.forall_mem_cons.mpr ⟨CommitsFormed.tail htop, hbelow⟩⟩
  | inputs => exact h
  | reset =>
    refine ⟨fun r hr => ?_, fun _ htask => absurd htask List.not_mem_nil⟩
    cases r with
    | drvctrl | chopconf | smarten | sgcsconf | drvconf => exact absurd hr Bool.false_ne_true
  | row i t _ hexec =>
    rcases localOrCalls_of_exec hexec with hlocal | ⟨u, todo, hlocal, hplan, rfl⟩
    · exact hlocal.cachesFormed h
    · have hu : u.CachesFormed := hlocal.cachesFormed h
      exact hu.run (hplan.commitsFormed hu (hlocal.cfg ▸ hmap)) .none
  | resume =>
    rcases s.resume_cases with ⟨-, hrun⟩ | ⟨todo, rx, below, htasks, hrun⟩
    · rw [hrun]; exact h
    · rw [hrun]
      obtain ⟨hcaches, hcommits⟩ := h
      rw [htasks, List.forall_mem_cons] at hcommits
      obtain ⟨htop, hbelow⟩ := hcommits
      exact State.CachesFormed.run (s := { s with tasks := below }) ⟨hcaches, hbelow⟩ htop rx

end Caches

theorem wordOf_default (r : RegId) (w : Word20) : wordOf .default r w = (patternOf r).fits w := by
  cases r with
  | drvctrl =>
    rw [wordOf, RegMap.default_holdsWord, RegMap.default_holdsWord, Bool.eq_iff_iff, Bool.or_eq_true]
    exact ⟨fun h => h.elim Pattern.drvctrlSpi_fits_of_sd id, .inr⟩
  | chopconf => exact RegMap.default_holdsWord .chopconf w
  | smarten => exact RegMap.default_holdsWord .smarten w
  | sgcsconf => exact RegMap.default_holdsWord .sgcsconf w
  | drvconf => exact RegMap.default_holdsWord .drvconf w

theorem mapFits_of_default {c : Config} (h : c.regMap = .default) : c.mapFits = true := by
  rw [Config.mapFits, h]
  decide

/-- Settles O53: every plan commits words of its register, and nothing else writes a cache. -/
theorem cachesStayFormed : Obligations.CachesStayFormed := by
  unfold Obligations.CachesStayFormed
  refine ⟨fun s t hmap hformed h => ?_, fun c => mapFits_of_default, wordOf_default⟩
  obtain ⟨port, ms, n, heffect⟩ := step_effect h
  exact heffect.cachesFormed hmap hformed

end Sys2Proof.Machine
end

section
/-! Proofs about chip-select framing as an invariant (spec 10_state.md section 10, 20_memory.md section 3): each line of an
exchange moves the wire as the record shows it, and every plan that the block calls starts and ends on an idle wire. -/

namespace Sys2Proof.Machine

/-! ## The wire -/

theorem Wire.after_append (w : Wire) (a b : List PortEvent) : w.after (a ++ b) = (w.after a).bind fun w' => w'.after b := by
  induction a generalizing w with
  | nil => rfl
  | cons e a ih =>
    rw [List.cons_append, Wire.after, Wire.after]
    cases w.next e with
    | none => rfl
    | some w' => exact ih w'

theorem Wire.after_telemetry (w : Wire) (p sg : BitVec 10) (cs : BitVec 5) (status : Byte) :
    w.after [.telemetry p sg cs status] = some w := by
  match w with
  | .idle => rfl
  | .open n => rfl

theorem Wire.after_debugs (w : Wire) (n : Nat) : w.after (List.replicate n .debug) = some w := by
  induction n with
  | zero => rfl
  | succ n ih =>
    have hnext : w.next .debug = some w := by
      match w with
      | .idle => rfl
      | .open k => rfl
    rw [List.replicate_succ, Wire.after, hnext]
    exact ih

theorem Wire.after_reset (w : Wire) : w.after [.reset] = some .idle := by
  match w with
  | .idle => rfl
  | .open n => rfl

/-- The record stands at this place on the wire, and CS_LINE is asserted just inside a frame. -/
def State.WireAt (s : State) (w : Wire) : Prop := Wire.idle.after s.out = some w ∧ (s.csLine = true ↔ w ≠ .idle)

/-- From this place on the wire these lines end on an idle wire. -/
def ClosesFrame (w : Wire) (l : List Micro) : Prop := w.after (l.flatMap wireEvent) = some .idle

/-! A write of CS_LINE and a byte sent, inside a frame (R67, R123). -/

theorem Wire.open_next_deasserted (n : Nat) :
    (Wire.open n).next (.chipSelect false) = if n = 3 then some .idle else none := rfl

theorem Wire.open_next_sent (n : Nat) (t : Byte) :
    (Wire.open n).next (.linkTx t) = if n < 3 then some (.open (n + 1)) else none := rfl

/-! What they need of the wire, and where they leave it. -/

theorem Wire.next_asserted {w w' : Wire} (h : w.next (.chipSelect true) = some w') : w' = .open 0 := by
  match w, h with
  | .idle, h => exact (Option.some.inj h).symm
  | .open n, h => exact absurd h nofun

theorem Wire.next_deasserted {w w' : Wire} (h : w.next (.chipSelect false) = some w') : w' = .idle := by
  match w, h with
  | .idle, h => exact absurd h nofun
  | .open n, h =>
    rw [Wire.open_next_deasserted] at h
    split_ifs at h
    exact (Option.some.inj h).symm

theorem Wire.next_sent {w w' : Wire} {t : Byte} (h : w.next (.linkTx t) = some w') :
    ∃ n, w = .open n ∧ w' = .open (n + 1) := by
  match w, h with
  | .idle, h => exact absurd h nofun
  | .open n, h =>
    rw [Wire.open_next_sent] at h
    split_ifs at h
    exact ⟨n, rfl, (Option.some.inj h).symm⟩

theorem Wire.after_singleton (w : Wire) (e : PortEvent) : w.after [e] = w.next e := by
  rw [Wire.after]
  cases w.next e with
  | none => rfl
  | some w' => rfl

/-- CS_LINE follows the wire: a line that moves the wire writes the level it now has. -/
theorem chipSelectLevel_iff {m : Micro} {w w' : Wire} {level : Bool} (h : level = true ↔ w ≠ .idle)
    (hm : w.after (wireEvent m) = some w') : m.chipSelectLevel level = true ↔ w' ≠ .idle := by
  cases m with
  | chipSelect b =>
    rw [wireEvent, Wire.after_singleton] at hm
    cases b with
    | true => simp [Micro.chipSelectLevel, Wire.next_asserted hm]
    | false => simp [Micro.chipSelectLevel, Wire.next_deasserted hm]
  | send t =>
    rw [wireEvent, Wire.after_singleton] at hm
    obtain ⟨n, rfl, rfl⟩ := Wire.next_sent hm
    simpa [Micro.chipSelectLevel] using h
  | _ => cases hm; exact h

section Framing

variable {s t u : State} {w : Wire}

/-- One more line is done. -/
theorem State.WireAt.line {m : Micro} {rest : List Micro} (h : s.WireAt w) (hclose : ClosesFrame w (m :: rest))
    (hline : LineEffect m s t) : ∃ w', t.WireAt w' ∧ ClosesFrame w' rest := by
  obtain ⟨hout, hcs⟩ := h
  rw [ClosesFrame, List.flatMap_cons, Wire.after_append] at hclose
  obtain ⟨w', hmove, hrest⟩ := Option.bind_eq_some_iff.mp hclose
  refine ⟨w', ⟨?_, ?_⟩, hrest⟩
  · rcases hline.out with h | ⟨p, sg, cs, status, hsilent, h⟩
    · rw [h, Wire.after_append, hout, Option.bind_some, hmove]
    · rw [hsilent] at hmove
      rw [h, Wire.after_append, hout, Option.bind_some, Wire.after_telemetry]
      exact hmove
  · rw [hline.csLine]
    exact chipSelectLevel_iff hcs hmove

/-- With no operation in progress the wire is idle; with one, what is left of it closes its frame. -/
theorem wellFramed_iff :
    s.WellFramed ↔ (s.tasks = [] ∧ s.WireAt .idle) ∨
      ∃ w todo rx, s.tasks = [⟨todo, rx⟩] ∧ s.WireAt w ∧ ClosesFrame w todo := by
  constructor
  · rintro ⟨w, hout, hcs, htasks⟩
    revert htasks
    cases s.tasks with
    | nil => rintro rfl; exact .inl ⟨rfl, hout, hcs⟩
    | cons task below =>
      cases below with
      | nil => exact fun hclose => .inr ⟨w, task.todo, task.rx, rfl, ⟨hout, hcs⟩, hclose⟩
      | cons => exact False.elim
  · rintro (⟨htasks, hout, hcs⟩ | ⟨w, todo, rx, htasks, ⟨hout, hcs⟩, hclose⟩)
    · exact ⟨.idle, hout, hcs, by rw [htasks]⟩
    · exact ⟨w, hout, hcs, by rw [htasks]; exact hclose⟩

/-- A segment of an operation whose lines close the frame they start in. -/
theorem State.WireAt.run {l : List Micro} (htasks : s.tasks = []) (h : s.WireAt w) (hclose : ClosesFrame w l)
    (rx : Received) : (runMicros l rx s).WellFramed := by
  refine runMicros_induct (P := fun l _ u => u.tasks = [] ∧ ∃ w, u.WireAt w ∧ ClosesFrame w l) (Q := State.WellFramed)
    ?done ?held ?ends l rx s ⟨htasks, w, h, hclose⟩
  case done =>
    rintro m rest rx u rx' v ⟨hnone, w, hu, hrest⟩ hm
    have hline := Micro.lineEffect_of_done hm
    exact ⟨hline.tasks.trans hnone, hu.line hrest hline⟩
  case held =>
    rintro m rest rx u v ⟨hnone, w, hu, hrest⟩ hm
    obtain ⟨-, l, ms, rfl⟩ := Micro.attempt_held hm
    refine wellFramed_iff.mpr (.inr ⟨w, m :: rest, rx, ?_, hu, hrest⟩)
    rw [State.hold_tasks]
    exact congrArg _ hnone
  case ends =>
    rintro rx u ⟨hnone, w, hu, hend⟩
    obtain rfl : w = .idle := Option.some.inj hend
    exact wellFramed_iff.mpr (.inl ⟨hnone, hu⟩)

/-! ## The plans of the block -/

theorem ClosesFrame.append {a b : List Micro} (ha : ClosesFrame w a) (hb : ClosesFrame .idle b) :
    ClosesFrame w (a ++ b) := by
  rw [ClosesFrame, List.flatMap_append, Wire.after_append, ha]
  exact hb

/-- An exchange opens a frame on an idle wire, sends three bytes and closes it (R67, R123). -/
theorem closesFrame_sendWordPlan (v : Word20) : ClosesFrame .idle (sendWordPlan v) := rfl

theorem closesFrame_setterPlan (m : RegMap) (l : Layout) (args : List Word32) :
    ClosesFrame .idle (setterPlan m l args) := by
  unfold setterPlan
  split
  · exact (closesFrame_sendWordPlan _).append rfl
  · rfl

theorem closesFrame_initializeTick (c : Config) : ClosesFrame .idle (driverInitPlan c ++ [.enter .home]) := by
  unfold driverInitPlan
  refine ((((((closesFrame_setterPlan ..).append (closesFrame_setterPlan ..)).append (closesFrame_setterPlan ..)).append
    (closesFrame_setterPlan ..)).append (closesFrame_setterPlan ..)).append ?_).append ?_
  · rfl
  · rfl

theorem closesFrame_testDelayTick (kind : StatusKind) (v : Word20) :
    ClosesFrame .idle (statusReadPlan kind v ++ [.testDelayExit]) := by
  rw [statusReadPlan_eq]
  refine ((closesFrame_sendWordPlan v).append ?_).append rfl
  exact ClosesFrame.append (a := [.commit .drvconf v]) rfl ((closesFrame_sendWordPlan v).append rfl)

/-! ## Every effect of a step -/

theorem LocalEffect.wireAt (hlocal : LocalEffect s t) (h : s.WireAt w) : t.WireAt w := by
  obtain ⟨hout, hcs⟩ := h
  obtain ⟨n, hn⟩ := hlocal.out
  refine ⟨?_, by rw [hlocal.csLine]; exact hcs⟩
  rw [hn, Wire.after_append, hout, Option.bind_some, Wire.after_debugs]

theorem LocalEffect.wellFramed (hlocal : LocalEffect s t) (h : s.WellFramed) : t.WellFramed := by
  rw [wellFramed_iff, hlocal.tasks]
  rcases wellFramed_iff.mp h with ⟨htasks, hs⟩ | ⟨w, todo, rx, htasks, hs, hclose⟩
  · exact .inl ⟨htasks, hlocal.wireAt hs⟩
  · exact .inr ⟨w, todo, rx, htasks, hlocal.wireAt hs, hclose⟩

/-- A tick with no operation in progress calls a plan on an idle wire, or leaves the wire. -/
theorem State.WellFramed.tickBody (h : s.WellFramed) (htasks : s.tasks = []) : s.tickBody.WellFramed := by
  have hidle : s.countTick.WireAt .idle := by
    rcases wellFramed_iff.mp h with ⟨-, hs⟩ | ⟨_, _, _, htask, -, -⟩
    · exact (LocalEffect.of_countTick s).wireAt hs
    · exact absurd (htasks.symm.trans htask) (by simp)
  rcases s.tickBody_calls with ⟨-, hcall⟩ | ⟨-, kind, hcall⟩ | ⟨hlocal, -⟩
  · rw [hcall]
    exact State.WireAt.run (s := s.countTick) htasks hidle (closesFrame_initializeTick _) _
  · rw [hcall]
    exact State.WireAt.run (s := s.countTick) htasks hidle (closesFrame_testDelayTick _ _) _
  · exact hlocal.wellFramed h

theorem State.WellFramed.served {i : Instr} (h : s.WellFramed) (hrow : ServedRow s i) (hexec : exec i s = .next t) :
    t.WellFramed := by
  obtain ⟨k, rfl, htick⟩ := hrow
  cases k with
  | tick =>
    cases hexec
    exact State.WellFramed.tickBody ((LocalEffect.of_enterHandler s .tick).wellFramed h) (htick rfl)
  | step =>
    cases hexec
    exact ((LocalEffect.of_enterHandler ..).trans (State.stepExpiryBody_local _)).wellFramed h
  | home =>
    cases hexec
    exact ((LocalEffect.of_enterHandler ..).trans (State.homeEdgeBody_local _)).wellFramed h
  | stall =>
    cases hexec
    exact ((LocalEffect.of_enterHandler ..).trans (.of_debug _)).wellFramed h

theorem StepEffect.wellFramed (heffect : StepEffect (ServedRow s) s t) (h : s.WellFramed) : t.WellFramed := by
  cases heffect with
  | link a =>
    rcases s.linkMove_cases a with ⟨l, hmove⟩ | ⟨g, rest, rx, below, hguard, hmove⟩
    · rw [hmove]; exact h
    · rw [hmove]
      rcases wellFramed_iff.mp h with ⟨htasks, -⟩ | ⟨w, todo, rx', htasks, hs, hclose⟩
      · exact absurd (htasks.symm.trans hguard) (by simp)
      · obtain ⟨htask, rfl⟩ := List.cons.inj (htasks.symm.trans hguard)
        obtain ⟨rfl, rfl⟩ := Task.mk.inj htask
        exact wellFramed_iff.mpr (.inr ⟨w, rest, rx', rfl, hs, hclose⟩)
  | inputs => exact h
  | reset =>
    obtain ⟨w, hout, -⟩ := h
    refine wellFramed_iff.mpr (.inl ⟨rfl, ?_, by simp [State.holdInReset]⟩)
    have hrecord : s.holdInReset.out = s.out ++ [.reset] := rfl
    rw [hrecord, Wire.after_append, hout, Option.bind_some, Wire.after_reset]
  | row i t hrow hexec => exact h.served hrow hexec
  | resume =>
    rcases s.resume_cases with ⟨-, hrun⟩ | ⟨todo, rx, below, htask, hrun⟩
    · rw [hrun]; exact h
    · rw [hrun]
      rcases wellFramed_iff.mp h with ⟨htasks, -⟩ | ⟨w, todo', rx', htasks, hs, hclose⟩
      · exact absurd (htasks.symm.trans htask) (by simp)
      · obtain ⟨htop, rfl⟩ := List.cons.inj (htasks.symm.trans htask)
        obtain ⟨rfl, rfl⟩ := Task.mk.inj htop
        exact State.WireAt.run (s := { s with tasks := [] }) rfl hs hclose rx'

/-- Settles O55: a line of the operation in progress moves the wire as it was to, and the block calls plans on an idle wire
only. -/
theorem framingIsKept : Obligations.FramingIsKept := by
  unfold Obligations.FramingIsKept
  intro s t hfree hframed h
  obtain ⟨ms, n, heffect⟩ := step_effect_of_harnessFree hfree h
  exact ⟨harnessFree_of_step hfree h,
    StepEffect.wellFramed (s := { s with script := ms, moveCount := n }) heffect hframed⟩

end Framing

end Sys2Proof.Machine
end

section
/-! Proofs about the sweep and the step timer as invariants (spec 10_state.md sections 5 and 10): the sweep starts at tick 1
with a positive first entry and advances to positive entries only; the timer is programmed together with a direction. -/

namespace Sys2Proof

theorem Turn.toDirection_ne_stopped (d : Turn) : d.toDirection ≠ .stopped := by
  cases d with
  | clockwise | counterClockwise => nofun

theorem Config.periods_pos_of_wf {c : Config} (h : c.wf = true) : 0 < c.homingPeriod.toInt ∧ 0 < c.defaultPeriod.toInt := by
  simp only [Config.wf, Bool.and_eq_true, decide_eq_true_eq, and_assoc] at h
  obtain ⟨-, -, -, hhoming, hdefault, -⟩ := h
  exact ⟨hhoming, hdefault⟩

end Sys2Proof

namespace Sys2Proof.Machine

/-- An entry that a sweep can use is in the table and positive. -/
theorem positiveEntry_some {c : Config} {idx p : Word32} (h : positiveEntry c idx = some p) :
    idx.toNat < c.profile.length ∧ profileEntry c idx = some p ∧ 0 < p.toInt := by
  unfold positiveEntry at h
  split at h
  · rename_i q hq
    split at h
    · rename_i hpos
      obtain rfl := Option.some.inj h
      exact ⟨(List.getElem?_eq_some_iff.mp hq).1, hq, hpos⟩
    · cases h
  · cases h

/-! ## The tick counter (R27) -/

theorem State.countTick_ticks_toNat (s : State) : s.countTick.ticks.toNat = min (s.ticks.toNat + 1) (2 ^ 32 - 1) := by
  have hlt := s.ticks.isLt
  unfold State.countTick
  dsimp only
  split
  · omega
  · rw [BitVec.toNat_add_of_lt (by change s.ticks.toNat + 1 < 2 ^ 32; omega)]
    change s.ticks.toNat + 1 = _
    omega

theorem State.countTick_ticks_ne_zero (s : State) : s.countTick.ticks ≠ 0 := by
  intro h
  have hcount : 0 = min (s.ticks.toNat + 1) (2 ^ 32 - 1) := (congrArg BitVec.toNat h).symm.trans s.countTick_ticks_toNat
  omega

/-- The tick that is counted as 1 is the first one. -/
theorem State.ticks_eq_zero_of_countTick {s : State} (h : s.countTick.ticks = 1) : s.ticks = 0 := by
  have hcount : 1 = min (s.ticks.toNat + 1) (2 ^ 32 - 1) := (congrArg BitVec.toNat h).symm.trans s.countTick_ticks_toNat
  have hzero : s.ticks.toNat = 0 := by omega
  exact BitVec.eq_of_toNat_eq hzero

/-! ## The sweep -/

section Sweep

variable {s t : State}

theorem State.SweepSound.of_inactive (h : s.profileActive = false) : s.SweepSound := fun hactive =>
  absurd (h.symm.trans hactive) Bool.false_ne_true

theorem State.SweepSound.of_kept (h : s.SweepSound) (hcfg : t.cfg = s.cfg) (htilt : t.tilt = s.tilt)
    (hticks : t.ticks = s.ticks) (hidx : t.profileIdx = s.profileIdx) (hactive : t.profileActive = s.profileActive) :
    t.SweepSound := by
  rw [State.SweepSound, hcfg, htilt, hticks, hidx, hactive]
  exact h

/-- Outside TiltTable no sweep is active. -/
theorem State.SweepSound.inactive (h : s.SweepSound) (htilt : s.tilt ≠ .tiltTable) : s.profileActive = false :=
  Bool.eq_false_of_not_eq_true fun hactive => htilt (h hactive).1

/-- A sweep at an entry that it can use. -/
theorem State.SweepSound.of_entry {p : Word32} (htilt : s.tilt = .tiltTable) (hticks : s.ticks ≠ 0)
    (h : positiveEntry s.cfg s.profileIdx = some p) : s.SweepSound := by
  obtain ⟨hidx, hentry, hpos⟩ := positiveEntry_some h
  exact fun _ => ⟨htilt, hticks, hidx, p, hentry, hpos⟩

/-- No line of an operation starts a sweep or moves an active one. -/
theorem State.SweepSound.run (h : s.SweepSound) (l : List Micro) (rx : Received) : (runMicros l rx s).SweepSound := by
  refine runMicros_induct (P := fun _ _ u => u.SweepSound) (Q := State.SweepSound) ?done ?held ?ends l rx s h
  case done =>
    intro m rest rx u rx' v hu hm
    have hline := Micro.lineEffect_of_done hm
    rcases hline.tilt with ⟨x, -, rfl⟩ | ⟨-, rfl⟩ | ⟨htilt, hticks, hactive⟩
    · exact .of_inactive rfl
    · rcases u.testDelayExit_cases with ⟨-, hexit⟩ | ⟨-, hexit⟩
      · rw [hexit]; exact .of_inactive rfl
      · rw [hexit]; exact hu
    · exact hu.of_kept hline.cfg htilt hticks hline.profileIdx hactive
  case held =>
    intro m rest rx u v hu hm
    obtain ⟨-, l, ms, rfl⟩ := Micro.attempt_held hm
    exact hu
  case ends => exact fun _ _ hu => hu

theorem State.SweepSound.countTick (h : s.SweepSound) : s.countTick.SweepSound := by
  intro hactive
  obtain ⟨htilt, -, hentry⟩ := h hactive
  exact ⟨htilt, s.countTick_ticks_ne_zero, hentry⟩

theorem State.SweepSound.homeTick (h : s.SweepSound) : s.homeTick.SweepSound := by
  unfold State.homeTick
  split
  · exact h.of_kept rfl rfl rfl rfl rfl
  · exact h

theorem State.SweepSound.testDelayTick (h : s.SweepSound) : s.testDelayTick.SweepSound := by
  unfold State.testDelayTick
  split
  · exact h.run _ _
  · rcases s.testDelayExit_cases with ⟨-, hexit⟩ | ⟨-, hexit⟩
    · rw [hexit]; exact .of_inactive rfl
    · rw [hexit]; exact h

/-- Tick 1 starts a sweep at its first entry, or leaves none active: none was before it. -/
theorem State.SweepSound.tiltTableTick (h : s.SweepSound) (htilt : s.tilt = .tiltTable)
    (hfresh : s.ticks = 1 → s.profileActive = false) : s.tiltTableTick.SweepSound := by
  unfold State.tiltTableTick
  split_ifs with hfirst
  · cases hentry : positiveEntry s.cfg 0 with
    | none =>
      rw [State.startSweep_of_none hentry]
      exact .of_inactive (hfresh hfirst)
    | some p =>
      rw [State.startSweep_of_some hentry]
      have hticks : s.ticks ≠ 0 := by rw [hfirst]; decide
      exact .of_entry htilt hticks hentry
  · exact h
  · exact .of_inactive rfl

theorem State.SweepSound.testTick (h : s.SweepSound) (d : Turn) (other : TiltState) : (s.testTick d other).SweepSound := by
  rw [State.testTick_eq]
  split
  · exact .of_inactive rfl
  · unfold State.testStarted
    split
    · exact h.of_kept rfl rfl rfl rfl rfl
    · exact h

theorem State.SweepSound.tickRoutine (h : s.SweepSound) (hfresh : s.ticks = 1 → s.profileActive = false) :
    s.tickRoutine.SweepSound := by
  unfold State.tickRoutine
  cases htilt : s.tilt with
  | initial => exact h.run _ _
  | home => exact h.homeTick
  | testDelay => exact h.testDelayTick
  | tiltTable => exact h.tiltTableTick htilt hfresh
  | testClockwise | testCounterClockwise => exact h.testTick _ _
  | error => exact h

/-- A tick: where it is counted as 1 no tick of this state had been counted, so no sweep was active. -/
theorem State.SweepSound.tickBody (h : s.SweepSound) : s.tickBody.SweepSound := by
  rcases s.tickBody_cases with ⟨-, hbody⟩ | ⟨-, hbody⟩ | ⟨-, hbody⟩
  · rw [hbody]; exact h
  · rw [hbody]; exact .of_inactive rfl
  · rw [hbody]
    refine h.countTick.tickRoutine fun hfirst => Bool.eq_false_of_not_eq_true fun hactive => ?_
    exact (h hactive).2.1 (State.ticks_eq_zero_of_countTick hfirst)

/-- A step of the sweep goes on to an entry that it can use, or ends the sweep. -/
theorem State.SweepSound.sweepStep (h : s.SweepSound) (hactive : s.profileActive = true) : s.sweepStep.SweepSound := by
  obtain ⟨htilt, hticks, -⟩ := h hactive
  cases hentry : positiveEntry s.cfg (s.profileIdx + 1) with
  | none =>
    rw [State.sweepStep_of_none hentry]
    exact .of_inactive rfl
  | some p =>
    rw [State.sweepStep_of_some hentry]
    exact .of_entry htilt hticks hentry

theorem State.SweepSound.stepExpiryBody (h : s.SweepSound) : s.stepExpiryBody.SweepSound := by
  unfold State.stepExpiryBody
  cases s.tilt with
  | home | testClockwise | testCounterClockwise => exact h.of_kept rfl rfl rfl rfl rfl
  | tiltTable =>
    dsimp only
    split
    · exact h.sweepStep ‹_›
    · exact h
  | initial | testDelay | error => exact h

theorem State.SweepSound.homeEdgeBody (h : s.SweepSound) : s.homeEdgeBody.SweepSound := by
  cases hrow : s.cfg.reconcile.lookup s.direction s.covered with
  | none => rw [State.homeEdgeBody_of_none hrow]; exact h
  | some r =>
    rw [State.homeEdgeBody_of_some hrow]
    by_cases hhomed : s.tilt = .home ∧ r = 0
    · rw [State.reconcile_of_homed hhomed]; exact .of_inactive rfl
    · rw [State.reconcile_of_not_homed hhomed]; exact h

theorem StepEffect.sweepSound {u : State} (heffect : StepEffect (ServedRow u) s t) (h : s.SweepSound) : t.SweepSound := by
  cases heffect with
  | link a =>
    rcases s.linkMove_cases a with ⟨l, hmove⟩ | ⟨g, rest, rx, below, -, hmove⟩
    · rw [hmove]; exact h
    · rw [hmove]; exact h
  | inputs => exact h
  | reset => exact .of_inactive rfl
  | row i t hrow hexec =>
    obtain ⟨k, rfl, -⟩ := hrow
    cases k with
    | tick => cases hexec; exact State.SweepSound.tickBody (s := s.enterHandler .tick) h
    | step => cases hexec; exact State.SweepSound.stepExpiryBody (s := s.enterHandler .step) h
    | home => cases hexec; exact State.SweepSound.homeEdgeBody (s := s.enterHandler .home) h
    | stall => cases hexec; exact h
  | resume =>
    rcases s.resume_cases with ⟨-, hrun⟩ | ⟨todo, rx, below, -, hrun⟩
    · rw [hrun]; exact h
    · rw [hrun]; exact State.SweepSound.run (s := { s with tasks := below }) h todo rx

/-- Settles O54: a sweep starts and goes on at positive entries only, and every transition ends it. -/
theorem sweepStaysSound : Obligations.SweepStaysSound := by
  unfold Obligations.SweepStaysSound
  intro s t hfree hsound h
  obtain ⟨ms, n, heffect⟩ := step_effect_of_harnessFree hfree h
  exact ⟨harnessFree_of_step hfree h, heffect.sweepSound hsound⟩

end Sweep

/-! ## The step timer -/

/-- A running step timer has a direction that is not Stopped and a period in 1..2^31-1. -/
def State.TimerSound (s : State) : Prop := s.tmrRun = true → s.direction ≠ .stopped ∧ 0 < s.tmrPeriod.toInt

theorem State.timerSound_iff {s : State} : s.TimerSound ↔ s.TurnsWhenTimed ∧ s.PeriodInRange := by
  unfold State.TimerSound State.TurnsWhenTimed State.PeriodInRange
  exact ⟨fun h => ⟨fun hrun => (h hrun).1, fun hrun => (h hrun).2⟩, fun ⟨hturns, hperiod⟩ hrun => ⟨hturns hrun, hperiod hrun⟩⟩

section Timer

variable {s t : State}

theorem State.TimerSound.of_kept (h : s.TimerSound) (hdirection : t.direction = s.direction)
    (hperiod : t.tmrPeriod = s.tmrPeriod) (hrun : t.tmrRun = s.tmrRun) : t.TimerSound := by
  rw [State.TimerSound, hdirection, hperiod, hrun]
  exact h

theorem State.TimerSound.run (h : s.TimerSound) (l : List Micro) (rx : Received) : (runMicros l rx s).TimerSound := by
  obtain ⟨hdirection, hperiod, hrun⟩ := runMicros_timer l rx s
  exact h.of_kept hdirection hperiod hrun

/-- A timer programmed to a positive period together with a turn. -/
theorem State.timerSound_of_programmed {p : Word32} (hp : 0 < p.toInt) (d : Turn) (s : State) :
    ((s.programTimer p).turnTo d.toDirection).TimerSound :=
  fun _ => ⟨d.toDirection_ne_stopped, hp⟩

theorem State.TimerSound.testDelayExit (h : s.TimerSound) : s.testDelayExit.TimerSound := by
  rcases s.testDelayExit_cases with ⟨-, hexit⟩ | ⟨-, hexit⟩
  · rw [hexit]; exact h
  · rw [hexit]; exact h

theorem State.TimerSound.homeTick (h : s.TimerSound) (hwf : s.cfg.wf = true) : s.homeTick.TimerSound := by
  unfold State.homeTick
  split
  · exact State.timerSound_of_programmed (Config.periods_pos_of_wf hwf).1 _ s
  · exact h

theorem State.TimerSound.testDelayTick (h : s.TimerSound) : s.testDelayTick.TimerSound := by
  unfold State.testDelayTick
  split
  · exact h.run _ _
  · exact h.testDelayExit

theorem State.TimerSound.tiltTableTick (h : s.TimerSound) : s.tiltTableTick.TimerSound := by
  unfold State.tiltTableTick
  split_ifs
  · cases hentry : positiveEntry s.cfg 0 with
    | none =>
      rw [State.startSweep_of_none hentry]
      exact fun hrun => ⟨s.sweepDir.toDirection_ne_stopped, (h hrun).2⟩
    | some p =>
      rw [State.startSweep_of_some hentry]
      exact fun _ => ⟨s.sweepDir.toDirection_ne_stopped, (positiveEntry_some hentry).2.2⟩
  · exact h
  · exact h

theorem State.TimerSound.testTick (h : s.TimerSound) (hwf : s.cfg.wf = true) (d : Turn) (other : TiltState) :
    (s.testTick d other).TimerSound := by
  have hstarted : (s.testStarted d).TimerSound := by
    unfold State.testStarted
    split
    · exact State.timerSound_of_programmed (Config.periods_pos_of_wf hwf).2 d _
    · exact h
  rw [State.testTick_eq]
  split
  · exact hstarted
  · exact hstarted

theorem State.TimerSound.tickRoutine (h : s.TimerSound) (hwf : s.cfg.wf = true) : s.tickRoutine.TimerSound := by
  unfold State.tickRoutine
  cases s.tilt with
  | initial => exact h.run _ _
  | home => exact h.homeTick hwf
  | testDelay => exact h.testDelayTick
  | tiltTable => exact h.tiltTableTick
  | testClockwise | testCounterClockwise => exact h.testTick hwf _ _
  | error => exact h

theorem State.TimerSound.tickBody (h : s.TimerSound) (hwf : s.cfg.wf = true) : s.tickBody.TimerSound := by
  rcases s.tickBody_cases with ⟨-, hbody⟩ | ⟨-, hbody⟩ | ⟨-, hbody⟩
  · rw [hbody]; exact h
  · rw [hbody]; exact h
  · rw [hbody]; exact State.TimerSound.tickRoutine (s := s.countTick) h hwf

theorem State.TimerSound.sweepStep (h : s.TimerSound) : s.sweepStep.TimerSound := by
  cases hentry : positiveEntry s.cfg (s.profileIdx + 1) with
  | none => rw [State.sweepStep_of_none hentry]; exact h
  | some p =>
    rw [State.sweepStep_of_some hentry]
    exact fun hrun => ⟨(h hrun).1, (positiveEntry_some hentry).2.2⟩

theorem State.TimerSound.stepExpiryBody (h : s.TimerSound) : s.stepExpiryBody.TimerSound := by
  unfold State.stepExpiryBody
  cases s.tilt with
  | home | testClockwise | testCounterClockwise => exact h
  | tiltTable =>
    dsimp only
    split
    · exact h.sweepStep
    · exact h
  | initial | testDelay | error => exact h

theorem State.TimerSound.homeEdgeBody (h : s.TimerSound) : s.homeEdgeBody.TimerSound := by
  cases hrow : s.cfg.reconcile.lookup s.direction s.covered with
  | none => rw [State.homeEdgeBody_of_none hrow]; exact h
  | some r =>
    rw [State.homeEdgeBody_of_some hrow]
    by_cases hhomed : s.tilt = .home ∧ r = 0
    · rw [State.reconcile_of_homed hhomed]; exact h
    · rw [State.reconcile_of_not_homed hhomed]; exact h

theorem StepEffect.timerSound {u : State} (heffect : StepEffect (ServedRow u) s t) (hwf : s.cfg.wf = true)
    (h : s.TimerSound) : t.TimerSound := by
  cases heffect with
  | link a =>
    rcases s.linkMove_cases a with ⟨l, hmove⟩ | ⟨g, rest, rx, below, -, hmove⟩
    · rw [hmove]; exact h
    · rw [hmove]; exact h
  | inputs => exact h
  | reset => exact fun hrun => absurd hrun Bool.false_ne_true
  | row i t hrow hexec =>
    obtain ⟨k, rfl, -⟩ := hrow
    cases k with
    | tick => cases hexec; exact State.TimerSound.tickBody (s := s.enterHandler .tick) h hwf
    | step => cases hexec; exact State.TimerSound.stepExpiryBody (s := s.enterHandler .step) h
    | home => cases hexec; exact State.TimerSound.homeEdgeBody (s := s.enterHandler .home) h
    | stall => cases hexec; exact h
  | resume =>
    rcases s.resume_cases with ⟨-, hrun⟩ | ⟨todo, rx, below, -, hrun⟩
    · rw [hrun]; exact h
    · rw [hrun]; exact State.TimerSound.run (s := { s with tasks := below }) h todo rx

/-- Settles O56: a handler that programs the timer takes a positive period and turns, and none turns to Stopped. -/
theorem runningTimerIsDirected : Obligations.RunningTimerIsDirected := by
  unfold Obligations.RunningTimerIsDirected
  intro s t hfree hwf hturns hperiod h
  obtain ⟨ms, n, heffect⟩ := step_effect_of_harnessFree hfree h
  exact State.timerSound_iff.mp (heffect.timerSound hwf (State.timerSound_iff.mpr ⟨hturns, hperiod⟩))

end Timer

end Sys2Proof.Machine
end

section
/-! Proofs about the transitions as invariants (spec 44_tilt_fsm.md section 8): a handler moves STATE along the table, and
what an operation in progress still has to enter belongs to the state in which it was called. -/

namespace Sys2Proof.Machine

/-! ## The transitions of the handlers -/

section Handlers

variable (s : State)

theorem State.sweepStep_tilt : s.sweepStep.tilt = s.tilt := by
  cases h : positiveEntry s.cfg (s.profileIdx + 1) with
  | none => rw [State.sweepStep_of_none h]; rfl
  | some p => rw [State.sweepStep_of_some h]; rfl

theorem State.stepExpiryBody_tilt : s.stepExpiryBody.tilt = s.tilt := by
  unfold State.stepExpiryBody
  split
  · rfl
  · rfl
  · rfl
  · split
    · exact s.sweepStep_tilt
    · rfl
  · rfl
  · rfl
  · rfl

/-- A home edge makes the Home to TestDelay transition or none (R239). -/
theorem State.homeEdgeBody_tilt :
    s.homeEdgeBody.tilt = s.tilt ∨ (s.tilt = .home ∧ s.homeEdgeBody.tilt = .testDelay) := by
  cases h : s.cfg.reconcile.lookup s.direction s.covered with
  | none => rw [State.homeEdgeBody_of_none h]; exact .inl rfl
  | some r =>
    rw [State.homeEdgeBody_of_some h]
    by_cases hhomed : s.tilt = .home ∧ r = 0
    · rw [State.reconcile_of_homed hhomed]; exact .inr ⟨hhomed.1, rfl⟩
    · rw [State.reconcile_of_not_homed hhomed]; exact .inl rfl

end Handlers

/-- The table leads from R208's four states to those four only. -/
theorem documented_of_transition {a b : TiltState} (h : transition a b = true) (ha : documented a = true) :
    documented b = true := by
  cases a with
  | initial | home | testDelay | tiltTable =>
    cases b with
    | initial | home | testDelay | tiltTable => rfl
    | testClockwise | testCounterClockwise | error => exact absurd h Bool.false_ne_true
  | testClockwise | testCounterClockwise | error => exact absurd ha Bool.false_ne_true

/-! ## The documented states (R208) -/

section Documented

variable {s t : State}

theorem State.Documented.of_kept (h : s.Documented) (htasks : t.tasks = s.tasks) (htilt : documented t.tilt = true) :
    t.Documented := ⟨htilt, htasks ▸ h.2⟩

theorem LocalEffect.documented (hlocal : LocalEffect s t) (h : s.Documented) (htable : transition s.tilt t.tilt = true) :
    t.Documented :=
  h.of_kept hlocal.tasks (documented_of_transition htable h.1)

theorem State.Documented.run {l : List Micro} (h : s.Documented) (hl : ∀ m ∈ l, microDocumented m = true)
    (rx : Received) : (runMicros l rx s).Documented := by
  refine runMicros_induct (P := fun l _ u => u.Documented ∧ ∀ m ∈ l, microDocumented m = true) (Q := State.Documented)
    ?done ?held ?ends l rx s ⟨h, hl⟩
  case done =>
    rintro m rest rx u rx' v ⟨hu, hrest⟩ hm
    have hline := Micro.lineEffect_of_done hm
    refine ⟨hu.of_kept hline.tasks ?_, fun x hx => hrest x (.tail m hx)⟩
    rcases hline.tilt with ⟨x, rfl, rfl⟩ | ⟨-, rfl⟩ | ⟨htilt, -, -⟩
    · exact hrest (.enter x) List.mem_cons_self
    · rcases u.testDelayExit_cases with ⟨-, hexit⟩ | ⟨-, hexit⟩
      · rw [hexit]; rfl
      · rw [hexit]; exact hu.1
    · rw [htilt]; exact hu.1
  case held =>
    rintro m rest rx u v ⟨hu, hrest⟩ hm
    obtain ⟨-, l, ms, rfl⟩ := Micro.attempt_held hm
    exact ⟨hu.1, List.forall_mem_cons.mpr ⟨hrest, hu.2⟩⟩
  case ends => exact fun _ _ hu => hu.1

theorem microDocumented_of_inBody {m : Micro} (h : m.inBody = true) : microDocumented m = true := by
  cases m with
  | enter x => exact absurd h Bool.false_ne_true
  | _ => rfl

theorem microDocumented_initializeTick (c : Config) :
    ∀ m ∈ driverInitPlan c ++ [.enter .home], microDocumented m = true := by
  intro m hm
  rw [driverInitPlan_eq, List.append_assoc] at hm
  rcases List.mem_append.mp hm with hbody | hclosing
  · exact microDocumented_of_inBody (inBody_of_mem_initSetters hbody)
  · exact List.all_eq_true.mp (show [Micro.enable true, .enter .home].all microDocumented = true from rfl) m hclosing

theorem microDocumented_testDelayTick (kind : StatusKind) (w : Word20) :
    ∀ m ∈ statusReadPlan kind w ++ [.testDelayExit], microDocumented m = true := by
  intro m hm
  rcases List.mem_append.mp hm with hbody | hclosing
  · exact microDocumented_of_inBody (inBody_of_mem_statusReadPlan hbody)
  · rw [List.mem_singleton.mp hclosing]; rfl

theorem State.Documented.tickBody (h : s.Documented) : s.tickBody.Documented := by
  rcases s.tickBody_calls with ⟨-, hcall⟩ | ⟨-, kind, hcall⟩ | ⟨hlocal, htable⟩
  · rw [hcall]; exact State.Documented.run (s := s.countTick) h (microDocumented_initializeTick _) _
  · rw [hcall]; exact State.Documented.run (s := s.countTick) h (microDocumented_testDelayTick _ _) _
  · exact hlocal.documented h htable

theorem State.Documented.homeEdgeBody (h : s.Documented) : s.homeEdgeBody.Documented := by
  refine h.of_kept s.homeEdgeBody_local.tasks ?_
  rcases s.homeEdgeBody_tilt with htilt | ⟨-, htilt⟩
  · rw [htilt]; exact h.1
  · rw [htilt]; rfl

theorem StepEffect.documented {u : State} (heffect : StepEffect (ServedRow u) s t) (h : s.Documented) : t.Documented := by
  cases heffect with
  | link a =>
    rcases s.linkMove_cases a with ⟨l, hmove⟩ | ⟨g, rest, rx, below, htasks, hmove⟩
    · rw [hmove]; exact h
    · rw [hmove]
      obtain ⟨htilt, hlines⟩ := h
      rw [htasks, List.forall_mem_cons] at hlines
      obtain ⟨htop, hbelow⟩ := hlines
      exact ⟨htilt, List.forall_mem_cons.mpr ⟨fun m hm => htop m (.tail _ hm), hbelow⟩⟩
  | inputs => exact h
  | reset => exact ⟨rfl, fun _ htask => absurd htask List.not_mem_nil⟩
  | row i t hrow hexec =>
    obtain ⟨k, rfl, -⟩ := hrow
    cases k with
    | tick => cases hexec; exact State.Documented.tickBody (s := s.enterHandler .tick) h
    | step =>
      cases hexec
      exact State.Documented.of_kept (s := s.enterHandler .step) h (State.stepExpiryBody_local _).tasks
        (by rw [State.stepExpiryBody_tilt]; exact h.1)
    | home => cases hexec; exact State.Documented.homeEdgeBody (s := s.enterHandler .home) h
    | stall => cases hexec; exact h
  | resume =>
    rcases s.resume_cases with ⟨-, hrun⟩ | ⟨todo, rx, below, htasks, hrun⟩
    · rw [hrun]; exact h
    · rw [hrun]
      obtain ⟨htilt, hlines⟩ := h
      rw [htasks, List.forall_mem_cons] at hlines
      obtain ⟨htop, hbelow⟩ := hlines
      exact State.Documented.run (s := { s with tasks := below }) ⟨htilt, hbelow⟩ htop rx

/-- Settles O58: the table keeps to the four states, and the plans enter Home and TiltTable only. -/
theorem onlyDocumentedStatesAreReached : Obligations.OnlyDocumentedStatesAreReached := by
  unfold Obligations.OnlyDocumentedStatesAreReached
  intro s t hfree hdocumented h
  obtain ⟨ms, n, heffect⟩ := step_effect_of_harnessFree hfree h
  exact ⟨harnessFree_of_step hfree h, heffect.documented hdocumented⟩

end Documented

/-! ## The transition table (R209) -/

/-- Before the lines of a body, what is still to be entered is as after them. -/
theorem entersFit_append {a : TiltState} {front : List Micro} (h : ∀ m ∈ front, m.inBody = true) (l : List Micro) :
    entersFit a (front ++ l) = entersFit a l := by
  induction front with
  | nil => rfl
  | cons m front ih =>
    rw [List.forall_mem_cons] at h
    obtain ⟨hm, hfront⟩ := h
    rw [← ih hfront]
    cases m with
    | enter x | testDelayExit => exact absurd hm Bool.false_ne_true
    | _ => rfl

theorem entersFit_initializeTick (c : Config) : entersFit .initial (driverInitPlan c ++ [.enter .home]) = true := by
  rw [driverInitPlan_eq, List.append_assoc, entersFit_append fun _ => inBody_of_mem_initSetters]
  rfl

theorem entersFit_testDelayTick (kind : StatusKind) (w : Word20) :
    entersFit .testDelay (statusReadPlan kind w ++ [.testDelayExit]) = true := by
  rw [entersFit_append fun _ => inBody_of_mem_statusReadPlan]
  rfl

/-- An operation that fits Home enters nothing, so it fits every state. -/
theorem entersFit_of_home {l : List Micro} (h : entersFit .home l = true) (b : TiltState) : entersFit b l = true := by
  induction l with
  | nil => rfl
  | cons m l ih =>
    cases m with
    | enter x | testDelayExit => exact absurd h Bool.false_ne_true
    | _ => exact ih h

section Transitions

variable {s t : State} {a : TiltState}

theorem State.EntersFit.of_none (h : s.tasks = []) : s.EntersFit := by
  rw [State.EntersFit, h]
  trivial

theorem State.entersFit_of_task {todo : List Micro} {rx : Received} (h : s.tasks = [⟨todo, rx⟩]) :
    s.EntersFit ↔ entersFit s.tilt todo = true := by
  rw [State.EntersFit, h]

/-- With at most one operation in progress, none lies below it. -/
theorem State.EntersFit.below {todo : List Micro} {rx : Received} {below : List Task} (h : s.EntersFit)
    (htasks : s.tasks = ⟨todo, rx⟩ :: below) : below = [] ∧ entersFit s.tilt todo = true := by
  cases below with
  | nil => exact ⟨rfl, (State.entersFit_of_task htasks).mp h⟩
  | cons task below =>
    rw [State.EntersFit, htasks] at h
    exact h.elim

/-- With STATE as it was, what an operation in progress enters fits as before. -/
theorem State.EntersFit.of_kept (h : s.EntersFit) (htasks : t.tasks = s.tasks) (htilt : t.tilt = s.tilt) : t.EntersFit := by
  rw [State.EntersFit, htasks, htilt]
  exact h

/-- One line of an operation that fits: STATE stays, or the line is the last and moves it along the table. -/
theorem LineEffect.transition {m : Micro} {rest : List Micro} (hline : LineEffect m s t)
    (hfit : entersFit s.tilt (m :: rest) = true) :
    entersFit t.tilt rest = true ∧ (t.tilt = s.tilt ∨ rest = [] ∧ Machine.transition s.tilt t.tilt = true) := by
  have hother : t.tilt = s.tilt → entersFit s.tilt rest = true →
      entersFit t.tilt rest = true ∧ (t.tilt = s.tilt ∨ rest = [] ∧ Machine.transition s.tilt t.tilt = true) :=
    fun htilt hrest => ⟨htilt ▸ hrest, .inl htilt⟩
  rcases hline.tilt with ⟨x, rfl, rfl⟩ | ⟨rfl, rfl⟩ | ⟨htilt, -, -⟩
  · simp only [entersFit, Bool.and_eq_true, beq_iff_eq, List.isEmpty_iff] at hfit
    obtain ⟨⟨hstate, rfl⟩, rfl⟩ := hfit
    exact ⟨rfl, .inr ⟨rfl, by rw [hstate]; rfl⟩⟩
  · simp only [entersFit, Bool.and_eq_true, beq_iff_eq, List.isEmpty_iff] at hfit
    obtain ⟨hstate, rfl⟩ := hfit
    exact ⟨rfl, .inr ⟨rfl, s.testDelayExit_tilt hstate⟩⟩
  · refine hother htilt ?_
    cases m with
    | enter x =>
      simp only [entersFit, Bool.and_eq_true, List.isEmpty_iff] at hfit
      rw [hfit.2]; rfl
    | testDelayExit =>
      simp only [entersFit, Bool.and_eq_true, List.isEmpty_iff] at hfit
      rw [hfit.2]; rfl
    | _ => exact hfit

/-- A segment of an operation that fits the state in which it goes on. -/
theorem transition_of_run {l : List Micro} (htasks : s.tasks = []) (hfit : entersFit s.tilt l = true) (rx : Received) :
    Machine.transition s.tilt (runMicros l rx s).tilt = true ∧ (runMicros l rx s).EntersFit := by
  refine runMicros_induct
    (P := fun l _ u => u.tasks = [] ∧ entersFit u.tilt l = true ∧
      (u.tilt = s.tilt ∨ l = [] ∧ Machine.transition s.tilt u.tilt = true))
    (Q := fun t => Machine.transition s.tilt t.tilt = true ∧ t.EntersFit)
    ?done ?held ?ends l rx s ⟨htasks, hfit, .inl rfl⟩
  case done =>
    rintro m rest rx u rx' v ⟨hnone, hlines, hsame | ⟨hnil, -⟩⟩ hm
    · have hline := Micro.lineEffect_of_done hm
      obtain ⟨hrest, htilt⟩ := hline.transition hlines
      exact ⟨hline.tasks.trans hnone, hrest, hsame ▸ htilt⟩
    · exact absurd hnil (List.cons_ne_nil _ _)
  case held =>
    rintro m rest rx u v ⟨hnone, hlines, hsame | ⟨hnil, -⟩⟩ hm
    · obtain ⟨-, l, ms, rfl⟩ := Micro.attempt_held hm
      have htask : (State.hold (m :: rest) rx { u with link := l, script := ms }).tasks = [⟨m :: rest, rx⟩] :=
        congrArg _ hnone
      exact ⟨hsame ▸ transition_self _, (State.entersFit_of_task htask).mpr hlines⟩
    · exact absurd hnil (List.cons_ne_nil _ _)
  case ends =>
    rintro rx u ⟨hnone, -, hsame | ⟨-, htable⟩⟩
    · exact ⟨hsame ▸ transition_self _, .of_none hnone⟩
    · exact ⟨htable, .of_none hnone⟩

theorem transition_tickBody (htasks : s.tasks = []) :
    Machine.transition s.tilt s.tickBody.tilt = true ∧ s.tickBody.EntersFit := by
  rcases s.tickBody_calls with ⟨htilt, hcall⟩ | ⟨htilt, kind, hcall⟩ | ⟨hlocal, htable⟩
  · rw [hcall]
    exact transition_of_run (s := s.countTick) htasks (by rw [State.countTick_tilt, htilt]; exact entersFit_initializeTick _) _
  · rw [hcall]
    exact transition_of_run (s := s.countTick) htasks (by rw [State.countTick_tilt, htilt]; exact entersFit_testDelayTick _ _) _
  · exact ⟨htable, .of_none (hlocal.tasks.trans htasks)⟩

theorem transition_homeEdgeBody (h : s.EntersFit) :
    Machine.transition s.tilt s.homeEdgeBody.tilt = true ∧ s.homeEdgeBody.EntersFit := by
  have hkept := s.homeEdgeBody_local.tasks
  rcases s.homeEdgeBody_tilt with htilt | ⟨hhome, htilt⟩
  · exact ⟨htilt ▸ transition_self _, h.of_kept hkept htilt⟩
  · refine ⟨by rw [hhome, htilt]; rfl, ?_⟩
    cases htasks : s.tasks with
    | nil => exact .of_none (hkept.trans htasks)
    | cons task below =>
      obtain ⟨rfl, hfit⟩ := h.below htasks
      refine (State.entersFit_of_task (hkept.trans htasks)).mpr (entersFit_of_home ?_ _)
      rw [← hhome]
      exact hfit

theorem StepEffect.transition (heffect : StepEffect (ServedRow s) s t) (h : s.EntersFit) :
    (Machine.transition s.tilt t.tilt = true ∨ (t.tilt = .initial ∧ t.resetHeld = true)) ∧ t.EntersFit := by
  cases heffect with
  | link a =>
    rcases s.linkMove_cases a with ⟨l, hmove⟩ | ⟨g, rest, rx, below, htasks, hmove⟩
    · rw [hmove]; exact ⟨.inl (transition_self _), h⟩
    · rw [hmove]
      obtain ⟨rfl, hfit⟩ := h.below htasks
      exact ⟨.inl (transition_self _), hfit⟩
  | inputs => exact ⟨.inl (transition_self _), h⟩
  | reset => exact ⟨.inr ⟨rfl, rfl⟩, .of_none rfl⟩
  | row i t hrow hexec =>
    obtain ⟨k, rfl, htick⟩ := hrow
    cases k with
    | tick =>
      cases hexec
      exact (transition_tickBody (s := s.enterHandler .tick) (htick rfl)).imp .inl id
    | step =>
      cases hexec
      have htilt : (s.enterHandler .step).stepExpiryBody.tilt = s.tilt := State.stepExpiryBody_tilt _
      exact ⟨.inl (htilt ▸ transition_self _), h.of_kept (State.stepExpiryBody_local _).tasks htilt⟩
    | home =>
      cases hexec
      exact (transition_homeEdgeBody (s := s.enterHandler .home) h).imp .inl id
    | stall => cases hexec; exact ⟨.inl (transition_self _), h⟩
  | resume =>
    rcases s.resume_cases with ⟨-, hrun⟩ | ⟨todo, rx, below, htasks, hrun⟩
    · rw [hrun]; exact ⟨.inl (transition_self _), h⟩
    · rw [hrun]
      obtain ⟨rfl, hfit⟩ := h.below htasks
      exact (transition_of_run (s := { s with tasks := [] }) rfl hfit rx).imp .inl id

/-- Settles O59: a handler moves STATE along the table, and an operation enters what belongs to its state as its last
line. -/
theorem transitionsFollowTheTable : Obligations.TransitionsFollowTheTable := by
  unfold Obligations.TransitionsFollowTheTable
  intro s t hfree hfit h
  obtain ⟨ms, n, heffect⟩ := step_effect_of_harnessFree hfree h
  exact StepEffect.transition (s := { s with script := ms, moveCount := n }) heffect hfit

end Transitions

/-! ## The reset state -/

/-- Settles O60: no cache valid, no sweep, no operation, an idle wire, the timer stopped, STEPS = 0, Initialize. -/
theorem resetMeetsTheInvariants : Obligations.ResetMeetsTheInvariants := by
  unfold Obligations.ResetMeetsTheInvariants
  have hidle : State.reset.WireAt .idle := ⟨rfl, by simp [State.reset]⟩
  have hcaches : State.reset.CachesFormed := by
    refine ⟨fun r hr => ?_, fun _ htask => absurd htask List.not_mem_nil⟩
    cases r with
    | drvctrl | chopconf | smarten | sgcsconf | drvconf => exact absurd hr Bool.false_ne_true
  have htimer : State.reset.TimerSound := fun hrun => absurd hrun Bool.false_ne_true
  have hsteps : State.reset.StepsFit := by
    have hzero := Config.installed.holdsSteps_wrapSteps 0
    rw [Config.wrapSteps_zero] at hzero
    exact hzero
  obtain ⟨hturns, hperiod⟩ := State.timerSound_iff.mp htimer
  exact ⟨rfl, hcaches, .of_inactive rfl, wellFramed_iff.mpr (.inl ⟨rfl, hidle⟩), hturns, hperiod, hsteps,
    ⟨rfl, fun _ htask => absurd htask List.not_mem_nil⟩, .of_none rfl⟩

end Sys2Proof.Machine
end

section
/-! Proofs about the selection of a step and about events (spec 60_exceptions.md, 70_reset_and_hazards.md section 1): a
decided move is taken as it stands, and a move of the block serves what the latches select. -/

namespace Sys2Proof.Machine

/-! ## A decided move -/

section Moves

variable {s : State} {ms : List Move}

/-- Without a call to run, a step takes the oldest decided move. -/
theorem step_of_move {m : Move} (hidle : s.port = none ∨ s.resetHeld = true) (hs : s.script = m :: ms) :
    step s = ({ s with script := ms } : State).take m := by
  have hstep : step s = s.nextMove.2.take s.nextMove.1 := hidle.elim step_of_portEmpty step_of_resetHeld
  rw [hstep, State.nextMove_cons hs]

theorem step_of_link {a : LinkAction} (hidle : s.port = none ∨ s.resetHeld = true) (hs : s.script = .link a :: ms) :
    step s = .next (({ s with script := ms } : State).linkMove a) :=
  step_of_move hidle hs

theorem step_of_event {e : EnvEvent} (hidle : s.port = none ∨ s.resetHeld = true) (hs : s.script = .event e :: ms) :
    step s = ({ s with script := ms } : State).deliver e :=
  step_of_move hidle hs

theorem step_of_block {first : Source} (hidle : s.port = none ∨ s.resetHeld = true) (hs : s.script = .block first :: ms) :
    step s = ({ s with script := ms } : State).runBlock first :=
  step_of_move hidle hs

/-- Settles O9: a level and a byte are port writes, and the end of a delay looks at the innermost operation. -/
theorem linkMovesSetPorts : Obligations.LinkMovesSetPorts := by
  unfold Obligations.LinkMovesSetPorts
  intro ms s hidle
  refine ⟨fun b hs => step_of_link hidle hs, fun b hs => step_of_link hidle hs, fun b hs => step_of_link hidle hs,
    fun hs => ⟨fun g rest rx below htasks => ?_, fun hnone => ?_⟩⟩
  · rw [step_of_link hidle hs]
    exact congrArg _ (State.guardElapsed_of_guard (s := { s with script := ms }) htasks)
  · rw [step_of_link hidle hs]
    exact congrArg _ (State.guardElapsed_of_not_guard (s := { s with script := ms }) hnone)

end Moves

/-! ## Selection (R259) -/

section Selection

variable {s : State} {first : Source} {ms : List Move}

/-- The source a move names is served if it is of the highest level and pending. -/
theorem State.selectSource_of_named (hfirst : first ≠ .tick) (hpending : s.pend.get first = true) :
    s.selectSource first = some first := by
  rw [State.selectSource, Pending.selectHigh, if_pos ⟨hfirst, hpending⟩]

theorem step_of_selected {k : Source} (hp : s.port = none) (hr : s.resetHeld = false) (hs : s.script = .block first :: ms)
    (hk : s.selectSource first = some k) : step s = exec (handlerOf k) { s with script := ms } :=
  (step_of_block (.inl hp) hs).trans (State.runBlock_of_some (s := { s with script := ms }) hr hk)

theorem step_of_none_selected (hp : s.port = none) (hr : s.resetHeld = false) (hs : s.script = .block first :: ms)
    (hk : s.selectSource first = none) : step s = .next ({ s with script := ms } : State).resume :=
  (step_of_block (.inl hp) hs).trans (State.runBlock_of_none (s := { s with script := ms }) hr hk)

/-- With a source of the highest level pending, one of them is served, whatever operation is in progress. -/
theorem step_of_high (hp : s.port = none) (hr : s.resetHeld = false) (hs : s.script = .block first :: ms)
    (hhigh : s.pend.high = true) :
    ∃ k, k ≠ .tick ∧ s.pend.get k = true ∧ step s = exec (handlerOf k) { s with script := ms } := by
  obtain ⟨k, hk, hne, hpending⟩ := State.selectSource_of_high first hhigh
  exact ⟨k, hne, hpending, step_of_selected hp hr hs hk⟩

/-- Settles O44: each clause is one outcome of the selection. -/
theorem stepServesByPriority : Obligations.StepServesByPriority := by
  unfold Obligations.StepServesByPriority
  intro first ms s hp hr hs s'
  refine ⟨fun hfirst hpending => step_of_selected hp hr hs (State.selectSource_of_named hfirst hpending),
    step_of_high hp hr hs, fun hlow htasks htick => ?tick, fun hlow htasks htick => ?nothing,
    fun hlow htasks => ?held⟩
  case tick =>
    refine step_of_selected (k := .tick) hp hr hs ?_
    rw [State.selectSource_of_low first hlow, htasks, htick]
    rfl
  case nothing =>
    have hnone : s.selectSource first = none := by
      rw [State.selectSource_of_low first hlow, htick, Bool.and_false, if_neg Bool.false_ne_true]
    have hresume : s'.resume = s' := by rw [State.resume, show s'.tasks = [] from htasks]
    rw [step_of_none_selected hp hr hs hnone]
    exact congrArg _ hresume
  case held =>
    refine step_of_none_selected hp hr hs ?_
    rw [State.selectSource_of_low first hlow, List.isEmpty_eq_false_iff.mpr htasks, Bool.false_and,
      if_neg Bool.false_ne_true]

end Selection

/-! ## A presented row (log 3) -/

/-- Settles O43: a call is decoded and run on the state with the port emptied. -/
theorem stepRunsPresentedRow : Obligations.StepRunsPresentedRow := by
  unfold Obligations.StepRunsPresentedRow
  intro s i hr
  have hbytes : ∀ (u : State) bs, u.resetHeld = false → u.port = some (.bytes bs) → decodeAuto bs = .ok i →
      step u = exec i { u with port := none } := by
    intro u bs hu hport hdecode
    rw [step_of_call hport hu, State.runCall, Call.decode, hdecode]
  refine ⟨fun hport => step_of_call hport hr, fun bs => hbytes s bs hr, fun nbits w hdecode => ?_⟩
  refine hbytes (s.withFetchWord nbits w) _ rfl rfl ?_
  unfold decodeTableWord at hdecode
  cases hread : decodeAuto (tableBytes nbits w) with
  | ok j =>
    rw [hread] at hdecode
    exact congrArg _ (Option.some.inj hdecode)
  | error e =>
    rw [hread] at hdecode
    cases hdecode

/-! ## Events (R34, R35, R50, R280) -/

section Events

variable (s : State) (level : Bool)

theorem State.timerExpires_eq :
    s.timerExpires = { s with pend := { s.pend with step := s.pend.step || s.tmrRun } } := by
  unfold State.timerExpires
  by_cases hrun : s.tmrRun = true
  · have hlatch : (s.pend.step || s.tmrRun) = true := by rw [hrun, Bool.or_true]
    rw [if_pos hrun, hlatch]
    rfl
  · have hlatch : (s.pend.step || s.tmrRun) = s.pend.step := by
      rw [Bool.eq_false_of_not_eq_true hrun, Bool.or_false]
    rw [if_neg hrun, hlatch]

/-- A level of HOME_IN outside reset: a change raises HOME, and the detector takes the level. -/
theorem State.homeInput_of_released {s : State} (h : s.resetHeld = false) :
    s.homeInput level = { s with
      homeIn := level, homePrev := level, pend := { s.pend with home := s.pend.home || (level != s.homePrev) } } := by
  rw [State.homeInput, h, Bool.false_or]
  cases hsame : level == s.homePrev with
  | true => rw [if_pos rfl, bne, hsame, Bool.not_true, Bool.or_false]
  | false => rw [if_neg Bool.false_ne_true, bne, hsame, Bool.not_false, Bool.or_true]; rfl

/-- A level of SG_IN outside reset. -/
theorem State.sgInput_of_released {s : State} (h : s.resetHeld = false) :
    s.sgInput level = { s with
      sgIn := level, sgPrev := level, pend := { s.pend with stall := s.pend.stall || (level != s.sgPrev) } } := by
  rw [State.sgInput, h, Bool.false_or]
  cases hsame : level == s.sgPrev with
  | true => rw [if_pos rfl, bne, hsame, Bool.not_true, Bool.or_false]
  | false => rw [if_neg Bool.false_ne_true, bne, hsame, Bool.not_false, Bool.or_true]; rfl

/-- While reset is asserted the edge detectors follow their inputs (R35). -/
theorem State.homeInput_of_held {s : State} (h : s.resetHeld = true) :
    s.homeInput level = { s with homeIn := level, homePrev := level } := by
  rw [State.homeInput, h, Bool.true_or, if_pos rfl]

theorem State.sgInput_of_held {s : State} (h : s.resetHeld = true) :
    s.sgInput level = { s with sgIn := level, sgPrev := level } := by
  rw [State.sgInput, h, Bool.true_or, if_pos rfl]

theorem State.deliver_tick_of_released {s : State} (h : s.resetHeld = false) :
    s.deliver .tickEv = .next (s.raiseEvent .tick) := by
  simp only [State.deliver, h, if_neg Bool.false_ne_true]

theorem State.deliver_tick_of_held {s : State} (h : s.resetHeld = true) : s.deliver .tickEv = .fault .eventInReset := by
  simp only [State.deliver, h, if_true]

theorem State.releaseReset_of_released {s : State} (h : s.resetHeld = false) : s.releaseReset = s := by
  rw [State.releaseReset, h, if_neg Bool.false_ne_true]

theorem State.releaseReset_of_held {s : State} (h : s.resetHeld = true) :
    s.releaseReset = { s with resetHeld := false, homePrev := s.homeIn, sgPrev := s.sgIn } := by
  rw [State.releaseReset, h, if_pos rfl]

end Events

/-- Settles O45: each event by what it does outside reset. -/
theorem eventsSetLatches : Obligations.EventsSetLatches := by
  unfold Obligations.EventsSetLatches
  intro e ms s hp hr hs
  have hstep := step_of_event (.inl hp) hs
  have hr' : ({ s with script := ms } : State).resetHeld = false := hr
  cases e with
  | tickEv => exact ⟨_, hstep.trans (State.deliver_tick_of_released hr'), rfl⟩
  | timerExpiry => exact ⟨_, hstep, State.timerExpires_eq _⟩
  | homeLevel b => exact ⟨_, hstep, State.homeInput_of_released b hr'⟩
  | sgLevel b => exact ⟨_, hstep, State.sgInput_of_released b hr'⟩
  | reset asserted =>
    cases asserted with
    | false => exact ⟨_, hstep, State.releaseReset_of_released hr'⟩
    | true =>
      exact ⟨_, hstep, rfl, rfl, rfl, rfl, rfl, rfl, rfl, rfl, rfl, rfl, rfl, rfl, rfl, rfl, rfl, rfl, rfl, rfl, rfl, rfl,
        rfl, rfl⟩

/-- Settles O47: each move by what it does while reset is asserted. -/
theorem resetHeldTakesNoEvents : Obligations.ResetHeldTakesNoEvents := by
  unfold Obligations.ResetHeldTakesNoEvents
  intro ms s hr
  have hr' : ({ s with script := ms } : State).resetHeld = true := hr
  refine ⟨fun hs => ?tick, fun first hs => ?block, fun hs hrun => ?expiry, fun b hs => ?home, fun b hs => ?sg,
    fun hs => ?release⟩
  case tick => rw [step_of_event (.inr hr) hs, State.deliver_tick_of_held hr']
  case block => rw [step_of_block (.inr hr) hs, State.runBlock, if_pos hr']
  case expiry =>
    rw [step_of_event (.inr hr) hs]
    exact congrArg _ (if_neg (by simp [hrun]))
  case home =>
    rw [step_of_event (.inr hr) hs]
    exact congrArg _ (State.homeInput_of_held b hr')
  case sg =>
    rw [step_of_event (.inr hr) hs]
    exact congrArg _ (State.sgInput_of_held b hr')
  case release =>
    rw [step_of_event (.inr hr) hs]
    exact congrArg _ (State.releaseReset_of_held hr')

end Sys2Proof.Machine
end

section
/-! Proofs about the Transport (spec 41_transport.md): a segment is its first line and then the rest, and what a wait or a
delay does is decided by the link and by the move that stands next. -/

namespace Sys2Proof.Machine

/-! ## One line of a segment -/

section Lines

variable {w : Wait} {g : Guard} {a : LinkAction} {rest : List Micro} {rx : Received} {s : State} {ms : List Move}

/-- A wait whose condition holds is passed (log 12). -/
theorem run_wait_of_meets (h : s.link.meets w = true) : runMicros (.wait w :: rest) rx s = runMicros rest rx s := by
  rw [runMicros, Micro.attempt, State.attemptWait, if_pos h]

/-- While its condition does not hold, a wait takes a decided move of the link. -/
theorem run_wait_of_link (h : s.link.meets w = false) (hlow : s.pend.high = false) (hs : s.script = .link a :: ms) :
    runMicros (.wait w :: rest) rx s =
      runMicros (.wait w :: rest) rx { s with link := s.link.act a, script := ms } := by
  have hawait : s.link.await w s.script = (s.link.act a).await w ms := by
    rw [hs, Link.await, if_neg (by simp [h])]
  by_cases hmeets : (s.link.act a).meets w = true
  · rw [run_wait_of_meets (s := { s with link := s.link.act a, script := ms }) hmeets]
    simp only [runMicros, Micro.attempt, State.attemptWait, h, hlow, hawait, Link.await_of_meets hmeets, hmeets,
      if_true, Bool.false_eq_true, if_false]
  · simp only [runMicros, Micro.attempt, State.attemptWait, h, hlow, hawait, hmeets, Bool.false_eq_true, if_false]

/-- With no move of the link decided, an unmet wait stands (R127, R255). -/
theorem run_wait_of_stuck (h : s.link.meets w = false) (hlow : s.pend.high = false)
    (hs : ∀ a l, s.script ≠ .link a :: l) : runMicros (.wait w :: rest) rx s = s.hold (.wait w :: rest) rx := by
  have hawait : s.link.await w s.script = (s.link, s.script) := by
    cases hscript : s.script with
    | nil => rfl
    | cons m ms =>
      cases m with
      | link a => exact absurd hscript (hs a ms)
      | event e | block k => rw [Link.await, if_neg (by simp [h])]
  simp only [runMicros, Micro.attempt, State.attemptWait, h, hlow, hawait, Bool.false_eq_true, if_false]

/-- A delay takes a move of the link that is not its end. -/
theorem run_guard_of_link (ha : a ≠ .elapsed) (hlow : s.pend.high = false) (hs : s.script = .link a :: ms) :
    runMicros (.guard g :: rest) rx s =
      runMicros (.guard g :: rest) rx { s with link := s.link.act a, script := ms } := by
  have hawait : s.link.awaitElapsed s.script = (s.link.act a).awaitElapsed ms := by
    rw [hs]
    cases a with
    | elapsed => exact absurd rfl ha
    | txe b | bsy b | received b => rfl
  simp only [runMicros, Micro.attempt, State.attemptGuard, hlow, hawait, Bool.false_eq_true, if_false]

/-- With no move of the link decided, a delay stands. -/
theorem run_guard_of_stuck (hlow : s.pend.high = false) (hs : ∀ a l, s.script ≠ .link a :: l) :
    runMicros (.guard g :: rest) rx s = s.hold (.guard g :: rest) rx := by
  have hawait : s.link.awaitElapsed s.script = (false, s.link, s.script) := by
    cases hscript : s.script with
    | nil => rfl
    | cons m ms =>
      cases m with
      | link a => exact absurd hscript (hs a ms)
      | event e | block k => rfl
  simp only [runMicros, Micro.attempt, State.attemptGuard, hlow, hawait, Bool.false_eq_true, if_false]

end Lines

/-! ## XFER_BYTE and EXCHANGE on a prompt link -/

theorem exec_xferByte (t : Byte) (s : State) :
    exec (.xferByte t) s = .next (runMicros (xferPlan t .first ++ [.returnByte]) .none s) := rfl

theorem exec_exchange (t0 t1 t2 : Byte) (s : State) :
    exec (.exchange t0 t1 t2) s = .next (runMicros (exchangePlan t0 t1 t2 ++ [.returnFrame]) .none s) := rfl

/-- Settles O4: one byte transfer, then the byte is returned. -/
theorem byteTransferCompletes : Obligations.ByteTransferCompletes := by
  unfold Obligations.ByteTransferCompletes
  intro t r rest s hready hs
  rw [exec_xferByte, run_xfer hready hs]
  rfl

/-- Settles O5: one exchange, then the three bytes are returned. -/
theorem exchangeCompletes : Obligations.ExchangeCompletes := by
  unfold Obligations.ExchangeCompletes
  intro t0 t1 t2 r0 r1 r2 rest s hready hs
  rw [exec_exchange, run_exchange hready hs]
  rfl

/-- After a byte transfer on a prompt link the link is ready for the next one. -/
theorem State.linkReady.received {s : State} (h : s.linkReady) (r : Byte) (ms : List Move) (out : List PortEvent) :
    ({ s with link := { s.link with rx := r, rxne := false }, script := ms, out := out } : State).linkReady := by
  obtain ⟨htxe, -, hidle, hlow⟩ := h
  exact ⟨htxe, rfl, hidle, hlow⟩

/-- EXCHANGE line by line: chip-select, three transfers with a delay between them, the gate, the release. -/
theorem exchangePlan_append (t0 t1 t2 : Byte) (todo : List Micro) :
    exchangePlan t0 t1 t2 ++ todo =
      .chipSelect true :: (xferPlan t0 .first ++ .guard .byte :: (xferPlan t1 .second ++ .guard .byte ::
        (xferPlan t2 .third ++ .wait .idle :: .chipSelect false :: .guard .transaction :: todo))) := rfl

theorem run_chipSelect (b : Bool) (rest : List Micro) (rx : Received) (s : State) :
    runMicros (.chipSelect b :: rest) rx s = runMicros rest rx (s.setChipSelect b) := rfl

/-- A byte transfer whose answer comes after the link has become busy. -/
theorem run_xfer_busy {t r : Byte} {slot : Slot} {todo : List Micro} {rx : Received} {s : State} {rest : List Move}
    (h : s.linkReady) (hs : s.script = .link (.bsy true) :: .link (.received r) :: rest) :
    runMicros (xferPlan t slot ++ todo) rx s =
      runMicros todo (rx.set slot r)
        { s with
          link := { s.link with bsy := true, rx := r, rxne := false }, script := rest, out := s.out ++ [.linkTx t] } := by
  obtain ⟨htxe, hrxne, -, hlow⟩ := h
  have hsent : runMicros (xferPlan t slot ++ todo) rx s =
      runMicros (.wait .rxne :: .recv slot :: todo) rx { s with out := s.out ++ [.linkTx t] } :=
    run_wait_of_meets htxe
  rw [hsent, run_wait_of_link (w := .rxne) (s := { s with out := s.out ++ [.linkTx t] }) hrxne hlow hs,
    run_wait_of_link (a := .received r) (ms := rest) (by exact hrxne) (by exact hlow) rfl, run_wait_of_meets rfl]
  rfl

/-- With the link busy after the third byte, an exchange stands at the gate before its release. -/
theorem run_exchange_busy {t0 t1 t2 r0 r1 r2 : Byte} {todo : List Micro} {rx : Received} {s : State} {rest : List Move}
    (h : s.linkReady) (hs : s.script = .link (.received r0) :: .link .elapsed :: .link (.received r1) :: .link .elapsed ::
      .link (.bsy true) :: .link (.received r2) :: rest) (hrest : ∀ a l, rest ≠ .link a :: l) :
    runMicros (exchangePlan t0 t1 t2 ++ todo) rx s =
      ({ s with
          csLine := true
          link := { s.link with bsy := true, rx := r2, rxne := false }
          script := rest
          out := s.out ++ [.chipSelect true, .linkTx t0, .linkTx t1, .linkTx t2] } : State).hold
        (.wait .idle :: .chipSelect false :: .guard .transaction :: todo) ⟨r0, r1, r2⟩ := by
  have hlow : s.pend.high = false := h.2.2.2
  rw [exchangePlan_append, run_chipSelect, run_xfer (s := s.setChipSelect true) h hs,
    run_guard (by exact hlow) rfl, run_xfer (State.linkReady.received (s := s.setChipSelect true) h ..) rfl,
    run_guard (by exact hlow) rfl, run_xfer_busy (State.linkReady.received (s := s.setChipSelect true) h ..) rfl,
    run_wait_of_stuck rfl (by exact hlow) hrest]
  simp [State.setChipSelect, Received.set]

/-- Settles O6: the third byte is in, and the gate waits for the link to be idle. -/
theorem exchangeHoldsChipSelectWhileBusy : Obligations.ExchangeHoldsChipSelectWhileBusy := by
  unfold Obligations.ExchangeHoldsChipSelectWhileBusy
  intro t0 t1 t2 r0 r1 r2 s hready hs
  refine ⟨_, exec_exchange t0 t1 t2 s, ?_⟩
  rw [run_exchange_busy hready hs (by simp)]
  exact ⟨rfl, rfl, rfl, rfl⟩

/-! ## An operation that is held -/

/-- Settles O7: with no move of the link decided, the wait stands; a source of the highest level is selected before it. -/
theorem stuckWaitBlocksOnlyItsCaller : Obligations.StuckWaitBlocksOnlyItsCaller := by
  unfold Obligations.StuckWaitBlocksOnlyItsCaller
  intro w rest rx ts first ms s hp hr htasks hunmet hs hnolink
  refine ⟨fun hlow => ?_, step_of_high hp hr hs⟩
  rw [step_of_held hp hr hlow hs htasks, run_wait_of_stuck (by exact hunmet) (by exact hlow) hnolink]
  simp only [State.hold, ← htasks]

/-- A line that is done hands what is left to the state and the bytes it leaves. -/
theorem run_of_done {m : Micro} {rest : List Micro} {rx rx' : Received} {s s' : State} (h : m.attempt rx s = .done rx' s') :
    runMicros (m :: rest) rx s = runMicros rest rx' s' := by
  rw [runMicros, h]

theorem run_testDelayExit (rest : List Micro) (rx : Received) (s : State) :
    runMicros (.testDelayExit :: rest) rx s =
      runMicros rest rx (if s.cfg.testDelayTicks ≤ s.ticks.toNat then s.entered .tiltTable else s) :=
  rfl

/-- No row is presented, reset is released, and no source comes before an operation in progress. -/
def State.resumable (s : State) : Prop := s.port = none ∧ s.resetHeld = false ∧ s.pend.high = false

/-- The state with an operation standing above the others, and a move of the block next. -/
def State.heldAt (below : List Task) (first : Source) (todo : List Micro) (rx : Received) (ms : List Move) (s : State) :
    State :=
  { s with tasks := ⟨todo, rx⟩ :: below, script := .block first :: ms }

section Held

variable {below : List Task} {first : Source} {todo todo' rest : List Micro} {rx rx' : Received} {ms ms' : List Move}
  {s s' : State}

/-- A move of the block goes on with the operation that stands on top (R262). -/
theorem step_heldAt (h : s.resumable) :
    step (s.heldAt below first todo rx ms) = .next (runMicros todo rx { s with tasks := below, script := ms }) := by
  obtain ⟨hp, hr, hlow⟩ := h
  exact step_of_held hp hr hlow rfl rfl

/-- Two held operations whose lines run alike go on alike. -/
theorem step_heldAt_congr (h : s.resumable) (h' : s'.resumable)
    (hrun : runMicros todo rx { s with tasks := below, script := ms } =
      runMicros todo' rx' { s' with tasks := below, script := ms' }) :
    step (s.heldAt below first todo rx ms) = step (s'.heldAt below first todo' rx' ms') := by
  rw [step_heldAt h, step_heldAt h', hrun]

/-- A line other than a wait or a delay is done at once, and the operation goes on with its effect. -/
theorem step_heldAt_of_done {m : Micro} (h : s.resumable) (h' : s'.resumable)
    (hdone : m.attempt rx { s with tasks := below, script := ms } = .done rx' { s' with tasks := below, script := ms }) :
    step (s.heldAt below first (m :: rest) rx ms) = step (s'.heldAt below first rest rx' ms) :=
  step_heldAt_congr h h' (run_of_done hdone)

/-- The exit test of TESTDELAY_TICK, reached by an operation that was held (R198). -/
theorem step_heldAt_testDelayExit (h : s.resumable) :
    step (s.heldAt below first (.testDelayExit :: rest) rx ms) =
      step ((if s.cfg.testDelayTicks ≤ s.ticks.toNat then s.entered .tiltTable else s).heldAt below first rest rx ms) := by
  by_cases hleave : s.cfg.testDelayTicks ≤ s.ticks.toNat
  · rw [if_pos hleave]
    exact step_heldAt_of_done h h (by simp [Micro.attempt, State.testDelayExit, hleave, State.entered, State.enter])
  · rw [if_neg hleave]
    exact step_heldAt_of_done h h (by simp [Micro.attempt, State.testDelayExit, hleave])

/-- An operation that has just been held goes on at the next move of the block. -/
theorem stepsFrom_hold (n : Nat) (h : s.resumable) (hs : s.script = .block first :: ms) :
    stepsFrom (n + 1) (s.hold todo rx) = stepsFrom n (runMicros todo rx { s with script := ms }) := by
  obtain ⟨hp, hr, hlow⟩ := h
  have hstep : step (s.hold todo rx) = .next (runMicros todo rx { s with script := ms }) :=
    step_of_held hp hr hlow hs rfl
  rw [stepsFrom, hstep]

/-- On a link that has not answered yet, a byte transfer stands at the wait for the byte. -/
theorem run_xfer_held {t : Byte} {slot : Slot} (h : s.linkReady) (hs : s.script = .block first :: ms) :
    runMicros (xferPlan t slot ++ todo) rx s = (s.linkSend t).hold (.wait .rxne :: .recv slot :: todo) rx := by
  obtain ⟨htxe, hrxne, -, hlow⟩ := h
  calc runMicros (xferPlan t slot ++ todo) rx s
      = runMicros (.wait .rxne :: .recv slot :: todo) rx (s.linkSend t) := run_wait_of_meets htxe
    _ = _ := run_wait_of_stuck hrxne hlow (by simp [State.linkSend, State.emit, hs])

/-- A byte transfer held after its send goes on at the next move of the block, which takes the byte (R260). -/
theorem stepsFrom_xfer_held {t r : Byte} {slot : Slot} (n : Nat) (h : s.linkReady) (hfree : s.resumable)
    (hs : s.script = .block first :: .link (.received r) :: ms) :
    stepsFrom (n + 1) (runMicros (xferPlan t slot ++ todo) rx s) =
      stepsFrom n (runMicros todo (rx.set slot r)
        { s with link := { s.link with rx := r, rxne := false }, script := ms, out := s.out ++ [.linkTx t] }) := by
  obtain ⟨-, hrxne, -, hlow⟩ := id h
  rw [run_xfer_held h hs, stepsFrom_hold n (s := s.linkSend t) hfree hs,
    run_wait_of_link (w := .rxne) (by exact hrxne) (by exact hlow) rfl, run_wait_of_meets rfl]
  rfl

/-- A delay that has not elapsed is passed at the next move of the block, which finds it elapsed. -/
theorem stepsFrom_guard_held {g : Guard} (n : Nat) (hfree : s.resumable)
    (hs : s.script = .block first :: .link .elapsed :: ms) :
    stepsFrom (n + 1) (runMicros (.guard g :: todo) rx s) = stepsFrom n (runMicros todo rx { s with script := ms }) := by
  obtain ⟨-, -, hlow⟩ := id hfree
  rw [run_guard_of_stuck hlow (by simp [hs]), stepsFrom_hold n hfree hs, run_guard (by exact hlow) rfl]

end Held

/-- An exchange that is held after each of its bytes and at each delay ends as one that was never held (R260, R262). -/
theorem stepsFrom_exchange_held {t0 t1 t2 r0 r1 r2 : Byte} {k : Source} {ms : List Move} {s : State} (hready : s.linkReady)
    (hfree : s.resumable) (hs : s.script = ((exchangeMoves r0 r1 r2).flatMap fun m => [.block k, m]) ++ ms) :
    stepsFrom 6 (runMicros (exchangePlan t0 t1 t2 ++ [.returnFrame]) .none s) =
      some { s with
        csLine := false
        link := { s.link with rx := r2, rxne := false }
        script := ms
        out := s.out ++ [.chipSelect true, .linkTx t0, .linkTx t1, .linkTx t2, .chipSelect false]
        result := .frame r0 r1 r2 } := by
  have hs' : s.script = .block k :: .link (.received r0) :: .block k :: .link .elapsed :: .block k ::
      .link (.received r1) :: .block k :: .link .elapsed :: .block k :: .link (.received r2) :: .block k ::
      .link .elapsed :: ms := hs
  have hready' := State.linkReady.received (s := s.setChipSelect true) hready
  rw [exchangePlan_append, run_chipSelect, stepsFrom_xfer_held (s := s.setChipSelect true) 5 hready hfree hs',
    stepsFrom_guard_held 4 (by exact hfree) rfl, stepsFrom_xfer_held 3 (hready' ..) (by exact hfree) rfl,
    stepsFrom_guard_held 2 (by exact hfree) rfl, stepsFrom_xfer_held 1 (hready' ..) (by exact hfree) rfl,
    run_wait_of_meets (by simp [Link.meets, State.setChipSelect, hready.2.2.1]), run_chipSelect,
    stepsFrom_guard_held 0 (by exact hfree) rfl]
  simp [stepsFrom, runMicros, Micro.attempt, State.answer, State.setChipSelect, Received.set]

/-- Settles O8: the lines one by one, and an exchange that is held at each of its six waits and delays. -/
theorem heldOperationGoesOn : Obligations.HeldOperationGoesOn := by
  unfold Obligations.HeldOperationGoesOn
  refine ⟨fun first ms rest rx below s hp hr hlow => ?lines, fun t0 t1 t2 r0 r1 r2 k ms s hready hp hr hs => ?exchange⟩
  case lines =>
    have h : s.resumable := ⟨hp, hr, hlow⟩
    exact ⟨step_heldAt h,
      fun w hmeets => step_heldAt_congr h h (run_wait_of_meets hmeets),
      fun w a hunmet => step_heldAt_congr h h (run_wait_of_link hunmet hlow rfl),
      fun w hunmet hnolink => (step_heldAt h).trans (congrArg _ (run_wait_of_stuck hunmet hlow hnolink)),
      fun g => step_heldAt_congr h h (run_guard hlow rfl),
      fun g a ha => step_heldAt_congr h h (run_guard_of_link ha hlow rfl),
      fun g hnolink => (step_heldAt h).trans (congrArg _ (run_guard_of_stuck hlow hnolink)),
      fun b => step_heldAt_of_done h h rfl, fun t => step_heldAt_of_done h h rfl, fun slot => step_heldAt_of_done h h rfl,
      fun r w => step_heldAt_of_done h h rfl, fun b => step_heldAt_of_done h h rfl, fun t => step_heldAt_of_done h h rfl,
      step_heldAt_testDelayExit h,
      fun k => ⟨step_heldAt_of_done h h rfl, step_heldAt_of_done h h rfl⟩,
      step_heldAt_of_done h h rfl, step_heldAt_of_done h h rfl, fun c => step_heldAt_of_done h h rfl⟩
  case exchange =>
    have hheld : runMicros (exchangePlan t0 t1 t2 ++ [.returnFrame]) .none s = _ :=
      run_xfer_held (s := s.setChipSelect true) hready hs
    exact ⟨_, _, _, exec_exchange t0 t1 t2 s, congrArg State.tasks hheld, (congrArg State.result hheld).trans rfl,
      stepsFrom_exchange_held hready ⟨hp, hr, hready.2.2.2⟩ hs⟩

end Sys2Proof.Machine
end

section
/-! Proofs about the setters on a prompt link (spec 42, R140 to R148): validate, then one exchange and one commit. -/

namespace Sys2Proof.Machine

/-! ## A setter whose link answers at once -/

/-- A setter with valid arguments, on a prompt link: one exchange, its cache, Ok (R140). -/
theorem setter_of_valid {l : Layout} {args : List Word32} {r : Byte × Byte × Byte} {rest : List Move} {s : State}
    (hvalid : argsValid l args = true) (h : s.linkReady) (hs : s.script = answerMoves r ++ rest) :
    s.setter l args =
      ((s.afterExchange r.2.2 rest (wordEvents (s.cfg.regMap.word l args))).commit (layoutReg l)
        (s.cfg.regMap.word l args)).answer (.code .ok) := by
  rw [State.setter, if_pos hvalid, setterLines_eq, State.call, run_sendAndCommit h hs]
  rfl

/-- A setter that refuses its arguments answers InvalidInput and does nothing else (R148, R250). -/
theorem setter_of_refused {l : Layout} {args : List Word32} {s : State} (hrefused : argsValid l args = false) :
    s.setter l args = s.answer (.code .invalidInput) := by
  rw [State.setter, if_neg (by simp [hrefused])]
  rfl

theorem isBit_iff {v : Word32} : isBit v = true ↔ v = 0 ∨ v = 1 := by
  simp only [isBit, Bool.or_eq_true, beq_iff_eq]

/-- The validation of the step/direction form asks for two bits (R148). -/
theorem argsValid_drvctrlSd_iff {intpol dedge mres : Word32} :
    argsValid .drvctrlSd [intpol, dedge, mres] = true ↔ (intpol = 0 ∨ intpol = 1) ∧ (dedge = 0 ∨ dedge = 1) := by
  rw [argsValid, Bool.and_eq_true, isBit_iff, isBit_iff]

/-- The validation of the direct-phase form asks for two bits (R148). -/
theorem argsValid_drvctrlSpi_iff {pha ca phb cb : Word32} :
    argsValid .drvctrlSpi [pha, ca, phb, cb] = true ↔ (pha = 0 ∨ pha = 1) ∧ (phb = 0 ∨ phb = 1) := by
  rw [argsValid, Bool.and_eq_true, isBit_iff, isBit_iff]

/-- An argument that is a bit is not changed by the mask of its one-bit field. -/
theorem and_one_of_bit {v : Word32} (h : v = 0 ∨ v = 1) : v &&& 1#32 = v := by
  rcases h with rfl | rfl <;> rfl

/-! ## The words of the default map -/

/-- The word of a layout under the default map, as a 32-bit number (R91, R140). -/
theorem default_word_setWidth (l : Layout) (args : List Word32) :
    (RegMap.default.word l args).setWidth 32 =
      ((RegMap.default.fields l).zip args).foldl (fun w fa => w ||| fa.1.place fa.2)
        ((RegMap.default.base l).setWidth 32) :=
  setWidth_assemble (RegMap.fieldsFit_of_wf RegMap.default_wf l) args

theorem default_drvctrlSd_setWidth {intpol dedge : Word32} (hintpol : intpol = 0 ∨ intpol = 1)
    (hdedge : dedge = 0 ∨ dedge = 1) (mres : Word32) :
    (RegMap.default.word .drvctrlSd [intpol, dedge, mres]).setWidth 32 =
      (intpol <<< 9) ||| (dedge <<< 8) ||| (mres &&& 0xF) := by
  rw [default_word_setWidth]
  simp [RegMap.fields, RegMap.base, RegMap.default, Field.place, Field.mask, and_one_of_bit hintpol,
    and_one_of_bit hdedge]

theorem default_drvctrlSpi_setWidth {pha phb : Word32} (hpha : pha = 0 ∨ pha = 1) (hphb : phb = 0 ∨ phb = 1)
    (ca cb : Word32) :
    (RegMap.default.word .drvctrlSpi [pha, ca, phb, cb]).setWidth 32 =
      (pha <<< 17) ||| ((ca &&& 0xFF) <<< 9) ||| (phb <<< 8) ||| (cb &&& 0xFF) := by
  rw [default_word_setWidth]
  simp [RegMap.fields, RegMap.base, RegMap.default, Field.place, Field.mask, and_one_of_bit hpha, and_one_of_bit hphb]

/-! ## The six setters -/

/-- Settles O10: two bits pass the validation and the word is sent; anything else is refused. -/
theorem setDrvctrlStepDirectionForm : Obligations.SetDrvctrlStepDirectionForm := by
  unfold Obligations.SetDrvctrlStepDirectionForm
  intro intpol dedge mres s
  refine ⟨fun hintpol hdedge r rest h hs => ⟨_, rfl, fun hmap => ?word, congrArg _ (setter_of_valid ?valid h hs)⟩,
    fun hrefused => congrArg _ (setter_of_refused ?refused)⟩
  case word => rw [hmap, default_drvctrlSd_setWidth hintpol hdedge]
  case valid => exact argsValid_drvctrlSd_iff.mpr ⟨hintpol, hdedge⟩
  case refused => exact Bool.eq_false_iff.mpr fun hvalid => hrefused (argsValid_drvctrlSd_iff.mp hvalid)

/-- Settles O11: as the step/direction form, with PHA and PHB the bits. -/
theorem setDrvctrlDirectPhaseForm : Obligations.SetDrvctrlDirectPhaseForm := by
  unfold Obligations.SetDrvctrlDirectPhaseForm
  intro pha ca phb cb s
  refine ⟨fun hpha hphb r rest h hs => ⟨_, rfl, fun hmap => ?word, congrArg _ (setter_of_valid ?valid h hs)⟩,
    fun hrefused => congrArg _ (setter_of_refused ?refused)⟩
  case word => rw [hmap, default_drvctrlSpi_setWidth hpha hphb]
  case valid => exact argsValid_drvctrlSpi_iff.mpr ⟨hpha, hphb⟩
  case refused => exact Bool.eq_false_iff.mpr fun hvalid => hrefused (argsValid_drvctrlSpi_iff.mp hvalid)

/-- Settles O12: no argument is refused, and the default map places each in its field. -/
theorem setChopconfSendsAndCommits : Obligations.SetChopconfSendsAndCommits := by
  unfold Obligations.SetChopconfSendsAndCommits
  intro tbl chm rndtf hdec hend hstrt toff r rest s h hs
  refine ⟨_, rfl, fun hmap => ?_, congrArg _ (setter_of_valid rfl h hs)⟩
  rw [hmap, default_word_setWidth]
  simp [RegMap.fields, RegMap.base, RegMap.default, Field.place, Field.mask]

/-- Settles O13: no argument is refused, and the default map places each in its field. -/
theorem setSmartenSendsAndCommits : Obligations.SetSmartenSendsAndCommits := by
  unfold Obligations.SetSmartenSendsAndCommits
  intro seimin sedn semax seup semin r rest s h hs
  refine ⟨_, rfl, fun hmap => ?_, congrArg _ (setter_of_valid rfl h hs)⟩
  rw [hmap, default_word_setWidth]
  simp [RegMap.fields, RegMap.base, RegMap.default, Field.place, Field.mask]

/-- Settles O14: no argument is refused, and the default map places each in its field. -/
theorem setSgcsconfSendsAndCommits : Obligations.SetSgcsconfSendsAndCommits := by
  unfold Obligations.SetSgcsconfSendsAndCommits
  intro sfilt sgt cs r rest s h hs
  refine ⟨_, rfl, fun hmap => ?_, congrArg _ (setter_of_valid rfl h hs)⟩
  rw [hmap, default_word_setWidth]
  simp [RegMap.fields, RegMap.base, RegMap.default, Field.place, Field.mask]

/-- Settles O15: no argument is refused, and the default map places each in its field. -/
theorem setDrvconfSendsAndCommits : Obligations.SetDrvconfSendsAndCommits := by
  unfold Obligations.SetDrvconfSendsAndCommits
  intro tst slph slpl diss2g ts2g sdoff vsense rdsel r rest s h hs
  refine ⟨_, rfl, fun hmap => ?_, congrArg _ (setter_of_valid rfl h hs)⟩
  rw [hmap, default_word_setWidth]
  simp [RegMap.fields, RegMap.base, RegMap.default, Field.place, Field.mask]

end Sys2Proof.Machine
end

section
/-! Proofs about the operations of several exchanges on a prompt link: STATUS_READ (R150) and DRIVER_INIT (R160), alone and
in the state routines that run them (R192, R197). -/

namespace Sys2Proof.Machine

/-! ## STATUS_READ -/

/-- The exchange that carries a word, with the three bytes of its answer. -/
theorem run_sendAnswer {w : Word20} {r : Byte × Byte × Byte} {todo : List Micro} {rx : Received} {s : State}
    {rest : List Move} (h : s.linkReady) (hs : s.script = answerMoves r ++ rest) :
    runMicros (sendWordPlan w ++ todo) rx s =
      runMicros todo ⟨r.1, r.2.1, r.2.2⟩ (s.afterExchange r.2.2 rest (wordEvents w)) :=
  run_sendWord h hs

/-- A status read on a prompt link, whatever follows it (R150). -/
theorem run_statusRead {kind : StatusKind} {w : Word20} {a r : Byte × Byte × Byte} {todo : List Micro} {rx : Received}
    {s : State} {rest : List Move} (h : s.linkReady) (hs : s.script = answerMoves a ++ answerMoves r ++ rest) :
    runMicros (statusReadPlan kind w ++ todo) rx s =
      runMicros todo ⟨r.1, r.2.1, r.2.2⟩ (s.afterStatusRead kind w r rest) := by
  rw [List.append_assoc] at hs
  rw [statusReadPlan_eq, List.append_assoc, List.cons_append, List.append_assoc, run_sendAndCommit h hs,
    run_sendAnswer (State.linkReady_commit (State.linkReady_afterExchange h ..) ..) rfl]
  simp [runMicros, Micro.attempt, State.sendTelemetry, State.emit, State.afterStatusRead, State.afterExchange,
    State.commit, Received.statusOf, PerReg.set]

/-- Under the default map a status read replaces bits 5 and 4 of its base word by the code of the kind. -/
theorem default_withRdsel (base : Word20) (kind : StatusKind) :
    RegMap.default.withRdsel base kind = (base &&& ~~~(0x30 : Word20)) |||
      (match kind with | .position => 0x00 | .stallGuardLevel => 0x10 | .stallGuardAndCurrent => 0x20) := by
  have hbits : RegMap.default.rdsel.bits = 0x30 := by decide
  rw [RegMap.withRdsel, hbits]
  cases kind <;> congr 1

theorem exec_statusRead (kind : StatusKind) (s : State) :
    exec (.statusRead kind) s =
      .next (runMicros (statusReadPlan kind (s.statusWord kind) ++ [.returnStatus kind]) .none s) := rfl

/-- Settles O18: two exchanges of the selecting word around its commit, then the record is returned. -/
theorem statusReadCompletes : Obligations.StatusReadCompletes := by
  unfold Obligations.StatusReadCompletes
  intro kind a r rest s h hs
  refine ⟨s.statusWord kind, _, rfl, rfl, fun hmap => ?word, ?run⟩
  case word => rw [State.statusWord, hmap, default_withRdsel]; rfl
  case run => rw [exec_statusRead, run_statusRead h hs]; rfl

theorem exec_testdelayTick (s : State) : exec .testdelayTick s = .next s.testDelayTick := rfl

/-- Settles O33: the read of tick 1 leaves the count, so the exit test sees 1. -/
theorem testDelayReadsOnceThenLeaves : Obligations.TestDelayReadsOnceThenLeaves := by
  unfold Obligations.TestDelayReadsOnceThenLeaves
  refine fun s => ⟨fun hlater => ?later, fun hfirst a r rest h hs => ?first⟩
  case later => rw [exec_testdelayTick, State.testDelayTick, if_neg hlater]; rfl
  case first =>
    have hcount : (s.afterStatusRead s.cfg.testDelayStatusKind (s.statusWord s.cfg.testDelayStatusKind) r rest).ticks = 1 :=
      hfirst
    rw [exec_testdelayTick, State.testDelayTick, if_pos hfirst, State.call, run_statusRead h hs, run_testDelayExit, hcount]
    rfl

/-! ## DRIVER_INIT -/

section DriverInit

variable {l : Layout} {args : List Word32} {todo : List Micro} {rx : Received} {s : State} {rest : List Move}

/-- A setter of DRIVER_INIT with valid arguments: one exchange and one commit (R160). -/
theorem run_setterPlan_of_valid {m : RegMap} {r : Byte × Byte × Byte} (hvalid : argsValid l args = true)
    (h : s.linkReady) (hs : s.script = answerMoves r ++ rest) :
    runMicros (setterPlan m l args ++ todo) rx s =
      runMicros todo ⟨r.1, r.2.1, r.2.2⟩
        ((s.afterExchange r.2.2 rest (wordEvents (m.word l args))).commit (layoutReg l) (m.word l args)) := by
  rw [setterPlan, if_pos hvalid, setterBody, List.append_assoc]
  exact run_sendAndCommit h hs

/-- A setter of DRIVER_INIT whose arguments are refused has no line at all (R160, R250). -/
theorem setterPlan_of_refused {m : RegMap} (hrefused : argsValid l args = false) : setterPlan m l args = [] := by
  rw [setterPlan, if_neg (by simp [hrefused])]

/-- The part of DRIVER_INIT that no argument stops: the last four setters and the enable line. -/
def lastFourSetters (c : Config) : List Micro :=
  setterPlan c.regMap .chopconf (initChopconf c.init) ++ setterPlan c.regMap .smarten (initSmarten c.init) ++
    setterPlan c.regMap .sgcsconf (initSgcsconf c.init) ++ setterPlan c.regMap .drvconf (initDrvconf c.init) ++
    [.enable true]

theorem driverInitPlan_eq_append (c : Config) :
    driverInitPlan c = setterPlan c.regMap .drvctrlSd (initDrvctrl c.init) ++ lastFourSetters c := by
  simp only [driverInitPlan, lastFourSetters, List.append_assoc]

/-- Ready after the exchange and the commit of a setter. -/
theorem State.linkReady.afterSetter {u : State} (h : u.linkReady) (x : Byte) (ms : List Move) (es : List PortEvent)
    (i : RegId) (w : Word20) : ((u.afterExchange x ms es).commit i w).linkReady :=
  State.linkReady_commit (State.linkReady_afterExchange h x ms es) i w

/-- The last four setters, on a prompt link, are what DRIVER_INIT does when it refuses the first (R160). -/
theorem run_lastFourSetters {b c d e : Byte × Byte × Byte} (h : s.linkReady)
    (hs : s.script = answerMoves b ++ (answerMoves c ++ (answerMoves d ++ (answerMoves e ++ rest)))) :
    runMicros (lastFourSetters s.cfg ++ todo) rx s =
      runMicros todo ⟨e.1, e.2.1, e.2.2⟩ (s.afterDriverInitInvalid e.2.2 rest) := by
  simp only [lastFourSetters, List.append_assoc]
  rw [run_setterPlan_of_valid rfl h hs, run_setterPlan_of_valid rfl (h.afterSetter ..) rfl,
    run_setterPlan_of_valid rfl ((h.afterSetter ..).afterSetter ..) rfl,
    run_setterPlan_of_valid rfl (((h.afterSetter ..).afterSetter ..).afterSetter ..) rfl]
  simp [runMicros, Micro.attempt, State.setEnable, State.afterDriverInitInvalid, State.afterExchange, State.commit,
    PerReg.set, initWords, layoutReg, initChopconf, initSmarten, initSgcsconf, initDrvconf]

/-- The first setter and then the other four are the whole of DRIVER_INIT. -/
theorem State.afterDriverInitInvalid_of_first (x r2 : Byte) (ms : List Move) :
    ((s.afterExchange x ms (wordEvents (initWords s.cfg).drvctrl)).commit .drvctrl
      (initWords s.cfg).drvctrl).afterDriverInitInvalid r2 rest = s.afterDriverInit r2 rest := by
  simp [State.afterDriverInit, State.afterDriverInitInvalid, State.afterExchange, State.commit, PerReg.set]

/-- DRIVER_INIT with a valid record, on a prompt link, whatever follows it. -/
theorem run_driverInit_of_valid {a b c d e : Byte × Byte × Byte}
    (hvalid : isBit s.cfg.init.intpol = true ∧ isBit s.cfg.init.dedge = true) (h : s.linkReady)
    (hs : s.script = answerMoves a ++ answerMoves b ++ answerMoves c ++ answerMoves d ++ answerMoves e ++ rest) :
    runMicros (driverInitPlan s.cfg ++ todo) rx s =
      runMicros todo ⟨e.1, e.2.1, e.2.2⟩ (s.afterDriverInit e.2.2 rest) := by
  have hargs : argsValid .drvctrlSd (initDrvctrl s.cfg.init) = true := by simpa [argsValid, initDrvctrl] using hvalid
  simp only [List.append_assoc] at hs
  rw [driverInitPlan_eq_append, List.append_assoc, run_setterPlan_of_valid hargs h hs,
    ← State.afterDriverInitInvalid_of_first]
  exact run_lastFourSetters (h.afterSetter ..) rfl

/-- DRIVER_INIT with a refused record, on a prompt link, whatever follows it. -/
theorem run_driverInit_of_refused {b c d e : Byte × Byte × Byte}
    (hrefused : ¬(isBit s.cfg.init.intpol = true ∧ isBit s.cfg.init.dedge = true)) (h : s.linkReady)
    (hs : s.script = answerMoves b ++ answerMoves c ++ answerMoves d ++ answerMoves e ++ rest) :
    runMicros (driverInitPlan s.cfg ++ todo) rx s =
      runMicros todo ⟨e.1, e.2.1, e.2.2⟩ (s.afterDriverInitInvalid e.2.2 rest) := by
  have hargs : argsValid .drvctrlSd (initDrvctrl s.cfg.init) = false := by simpa [argsValid, initDrvctrl] using hrefused
  simp only [List.append_assoc] at hs
  rw [driverInitPlan_eq_append, setterPlan_of_refused hargs, List.nil_append, run_lastFourSetters h hs]

end DriverInit

theorem exec_driverInit (s : State) : exec .driverInit s = .next (runMicros (driverInitPlan s.cfg ++ []) .none s) := by
  rw [List.append_nil]
  rfl

theorem exec_initializeTick (s : State) :
    exec .initializeTick s = .next (runMicros (driverInitPlan s.cfg ++ [.enter .home]) .none s) := rfl

/-- Settles O20: the setters of INIT, and nothing after them. -/
theorem driverInitConfiguresAndEnables : Obligations.DriverInitConfiguresAndEnables := by
  unfold Obligations.DriverInitConfiguresAndEnables
  refine fun a b c d e rest s h => ⟨fun hvalid hs => ?valid, fun hrefused hs => ?refused⟩
  case valid => rw [exec_driverInit, run_driverInit_of_valid hvalid h hs]; rfl
  case refused => rw [exec_driverInit, run_driverInit_of_refused hrefused h hs]; rfl

/-- Settles O31: the same lines, and then the entry of Home. -/
theorem initializeTickGoesHome : Obligations.InitializeTickGoesHome := by
  unfold Obligations.InitializeTickGoesHome
  refine fun a b c d e rest s h => ⟨fun hvalid hs => ?valid, fun hrefused hs => ?refused⟩
  case valid => rw [exec_initializeTick, run_driverInit_of_valid hvalid h hs]; rfl
  case refused => rw [exec_initializeTick, run_driverInit_of_refused hrefused h hs]; rfl

end Sys2Proof.Machine
end

section
/-! Proofs about the handlers: TICK (R188 to R191), HOME_EDGE (R236 to R239), and the length of a sweep (R225). -/

namespace Sys2Proof.Machine

/-! ## The handlers in Error, and the count of a tick -/

theorem exec_tick_of_error {s : State} (h : s.tilt = .error) : exec .tick s = .next (s.enterHandler .tick) := by
  rw [exec_tick, State.tickBody, State.enterHandler_tilt, if_pos h]

section HomeEdge

variable {n : Int} {s : State}

theorem exec_homeEdge_of_none (h : s.cfg.reconcile.lookup s.direction s.covered = none) :
    exec .homeEdge s = .next (s.enterHandler .home) := by
  rw [exec_homeEdge, State.homeEdgeBody_of_none (s := s.enterHandler .home) h]

theorem exec_homeEdge_of_some (h : s.cfg.reconcile.lookup s.direction s.covered = some n) :
    exec .homeEdge s = .next ((s.enterHandler .home).reconcile n) := by
  rw [exec_homeEdge, State.homeEdgeBody_of_some (s := s.enterHandler .home) h]

end HomeEdge

/-- Settles O28: each handler's body in Error. -/
theorem errorIsAbsorbing : Obligations.ErrorIsAbsorbing := by
  unfold Obligations.ErrorIsAbsorbing
  refine fun s herror => ⟨exec_tick_of_error herror, ?expiry, ?edge⟩
  case expiry =>
    rw [exec_stepExpiry, State.stepExpiryBody_of_resting (s := s.enterHandler .step) (.inr (.inr herror))]
    rfl
  case edge =>
    cases hrow : s.cfg.reconcile.lookup s.direction (s.homeIn == s.cfg.homeCoveredLevel) with
    | none => exact exec_homeEdge_of_none hrow
    | some n =>
      have hnot : ¬((s.enterHandler .home).tilt = .home ∧ n = 0) := by simp [herror]
      rw [exec_homeEdge_of_some hrow, State.reconcile_of_not_homed hnot]
      rfl

/-- Settles O30: where the limiter is not asked or does not trip, TICK is its count and then the routine. -/
theorem tickCountsThenDispatches : Obligations.TickCountsThenDispatches := by
  unfold Obligations.TickCountsThenDispatches
  intro i s hroutine hwithin
  obtain ⟨t, ht⟩ := exec_answers i (s.enterHandler .tick).countTick
  refine ⟨s.countTick.ticks, t, s.countTick_ticks_toNat, ht, ?_⟩
  have hpasses : limited s.tilt = false ∨ s.outOfBounds = false := by
    rcases hwithin with hinitial | hhome | ⟨hlower, hupper⟩
    · exact .inl (by rw [hinitial, limited_initial])
    · exact .inl (by rw [hhome, limited_home])
    · refine .inr (Bool.eq_false_iff.mpr fun hout => ?_)
      rw [State.outOfBounds_iff] at hout
      omega
  rw [exec_tick_of_counted hroutine hpasses, ht]

/-! ## HOME_EDGE -/

/-- Settles O39: the row of the table, and then whether the offset is 0 in Home. -/
theorem homeEdgeReconciles : Obligations.HomeEdgeReconciles := by
  unfold Obligations.HomeEdgeReconciles
  intro s entered r
  refine ⟨exec_homeEdge_of_none, fun hstopped => exec_homeEdge_of_none ?stopped,
    fun n hrow hfits hhome hzero => ?homed, fun n hrow hfits hother => ?assigned, fun n hrow hwide => ?reduced⟩
  case stopped => rw [hstopped, ReconcileTable.lookup_stopped]
  case homed =>
    rw [exec_homeEdge_of_some hrow, State.reconcile_of_homed (s := s.enterHandler .home) ⟨hhome, hzero⟩, hzero,
      Config.wrapSteps_zero]
    rfl
  case assigned =>
    rw [exec_homeEdge_of_some hrow, State.reconcile_of_not_homed (s := s.enterHandler .home) hother,
      Config.wrapSteps_of_holds (by exact hfits)]
    rfl
  case reduced =>
    have hne : n ≠ 0 := by
      rintro rfl
      exact hwide (s.cfg.wrapSteps_zero ▸ s.cfg.holdsSteps_wrapSteps 0)
    rw [exec_homeEdge_of_some hrow, State.reconcile_of_not_homed fun hhomed => hne hhomed.2]
    rfl

/-! ## The length of a sweep (R225) -/

/-- Every entry before the leading positive ones end is positive. -/
theorem positive_of_lt_leadingPositive {ps : List Word32} {i : Nat} (h : i < leadingPositive ps) :
    ∃ p, ps[i]? = some p ∧ 0 < p.toInt := by
  induction ps generalizing i with
  | nil => simp [leadingPositive] at h
  | cons p ps ih =>
    rw [leadingPositive] at h
    split at h
    next hp =>
      cases i with
      | zero => exact ⟨p, rfl, hp⟩
      | succ i => exact ih (Nat.lt_of_succ_lt_succ h)
    next => exact absurd h (Nat.not_lt_zero i)

/-- Where the leading positive entries end, the table ends or an entry is not positive. -/
theorem sweep_ends_at_leadingPositive (ps : List Word32) :
    ps.length ≤ leadingPositive ps ∨ ∃ p, ps[leadingPositive ps]? = some p ∧ p.toInt ≤ 0 := by
  induction ps with
  | nil => exact .inl (Nat.le_refl 0)
  | cons p ps ih =>
    rw [leadingPositive]
    split
    next => exact ih.imp (fun hend => Nat.succ_le_succ hend) fun ⟨q, hq, hnonpos⟩ => ⟨q, hq, hnonpos⟩
    next hp => exact .inr ⟨p, rfl, Int.not_lt.mp hp⟩

theorem leadingPositive_le_length (ps : List Word32) : leadingPositive ps ≤ ps.length := by
  by_contra hbeyond
  obtain ⟨p, hp, -⟩ := positive_of_lt_leadingPositive (Nat.lt_of_not_le hbeyond)
  simp at hp

/-- Counting on from a wrapped count is counting on from the count itself. -/
theorem wrapSteps_wrapSteps_add (c : Config) (a b : Int) : c.wrapSteps (c.wrapSteps a + b) = c.wrapSteps (a + b) :=
  Int.bmod_add_bmod

/-- `t` is where a sweep begun in `s` stands after `n` expiries (R225). -/
structure State.SweptFor (n : Nat) (s t : State) : Prop where
  cfg : t.cfg = s.cfg
  tilt : t.tilt = .tiltTable
  direction : t.direction = s.direction
  steps : t.steps = s.cfg.wrapSteps (s.steps + min n (leadingPositive s.cfg.profile) * s.direction.sign)
  active : t.profileActive = decide (n < leadingPositive s.cfg.profile)
  index : t.profileIdx.toNat = min n (leadingPositive s.cfg.profile)
  period : s.cfg.profile[min n (leadingPositive s.cfg.profile - 1)]? = some t.tmrPeriod

/-- An expiry after the sweep has ended changes none of these. -/
theorem State.SweptFor.expiry_of_ended {n : Nat} {s t : State} (h : State.SweptFor n s t)
    (hended : leadingPositive s.cfg.profile ≤ n) : State.SweptFor (n + 1) s (t.enterHandler .step).stepExpiryBody := by
  have hidle : t.profileActive = false := by rw [h.active]; exact decide_eq_false (Nat.not_lt.mpr hended)
  rw [State.stepExpiryBody_of_no_sweep (s := t.enterHandler .step) h.tilt hidle]
  have hmin : min (n + 1) (leadingPositive s.cfg.profile) = min n (leadingPositive s.cfg.profile) := by omega
  have hmin' : min (n + 1) (leadingPositive s.cfg.profile - 1) = min n (leadingPositive s.cfg.profile - 1) := by omega
  have hidle' : decide (n + 1 < leadingPositive s.cfg.profile) = false := decide_eq_false (by omega)
  exact { cfg := h.cfg, tilt := h.tilt, direction := h.direction, steps := by rw [hmin]; exact h.steps,
          active := hidle'.symm ▸ hidle, index := by rw [hmin]; exact h.index, period := by rw [hmin']; exact h.period }

/-- An expiry of the active sweep issues one step, and the entry after it decides whether the sweep goes on. -/
theorem State.SweptFor.expiry_of_active {n : Nat} {s t : State} (hlen : s.cfg.profile.length < 2 ^ 32)
    (h : State.SweptFor n s t) (hactive : n < leadingPositive s.cfg.profile) :
    State.SweptFor (n + 1) s (t.enterHandler .step).stepExpiryBody := by
  have hle := leadingPositive_le_length s.cfg.profile
  have hidx : (t.profileIdx + 1).toNat = n + 1 := by
    have hindex := h.index
    rw [BitVec.toNat_add_of_lt (by change t.profileIdx.toNat + 1 < 2 ^ 32; omega)]
    change t.profileIdx.toNat + 1 = n + 1
    omega
  have hsteps : steppedCount t.cfg t.steps t.direction =
      s.cfg.wrapSteps (s.steps + min (n + 1) (leadingPositive s.cfg.profile) * s.direction.sign) := by
    rw [steppedCount_eq, h.cfg, h.steps, h.direction, wrapSteps_wrapSteps_add, Int.add_assoc, Nat.min_eq_left hactive.le,
      Nat.min_eq_left hactive]
    congr 1
    push_cast
    ring
  rw [State.stepExpiryBody_of_sweeping (s := t.enterHandler .step) h.tilt (h.active.trans (decide_eq_true hactive))]
  by_cases hnext : n + 1 < leadingPositive s.cfg.profile
  · obtain ⟨p, hp, hpos⟩ := positive_of_lt_leadingPositive hnext
    have hentry : positiveEntry t.cfg (t.profileIdx + 1) = some p :=
      positiveEntry_of_pos (by rw [profileEntry, hidx, h.cfg, hp]) hpos
    rw [State.sweepStep_of_some (s := t.enterHandler .step) hentry, State.sweepAdvanced, State.pulse_eq]
    exact { cfg := h.cfg, tilt := h.tilt, direction := h.direction, steps := hsteps,
            active := (h.active.trans (decide_eq_true hactive)).trans (decide_eq_true hnext).symm,
            index := hidx.trans (Nat.min_eq_left hnext.le).symm,
            period := by rw [Nat.min_eq_left (by omega)]; exact hp }
  · have hlast : leadingPositive s.cfg.profile = n + 1 := by omega
    have hentry : positiveEntry t.cfg (t.profileIdx + 1) = none := by
      refine positiveEntry_of_sweep_end ?_
      rw [hidx, h.cfg, ← hlast]
      exact sweep_ends_at_leadingPositive s.cfg.profile
    rw [State.sweepStep_of_none (s := t.enterHandler .step) hentry, State.sweepAdvanced, State.pulse_eq]
    exact { cfg := h.cfg, tilt := h.tilt, direction := h.direction, steps := hsteps,
            active := (decide_eq_false hnext).symm,
            index := hidx.trans (Nat.min_eq_left hlast.ge).symm,
            period := by
              have hperiod := h.period
              rw [hlast] at hperiod ⊢
              simpa using hperiod }

theorem State.SweptFor.expiry {n : Nat} {s t : State} (hlen : s.cfg.profile.length < 2 ^ 32) (h : State.SweptFor n s t) :
    State.SweptFor (n + 1) s (t.enterHandler .step).stepExpiryBody :=
  (Nat.lt_or_ge n (leadingPositive s.cfg.profile)).elim (h.expiry_of_active hlen) h.expiry_of_ended

/-- So many more expiries carry the sweep so much further. -/
theorem State.SweptFor.expiries {s t : State} {m : Nat} (hlen : s.cfg.profile.length < 2 ^ 32) (h : State.SweptFor m s t)
    (n : Nat) : State.SweptFor (m + n) s (t.expiries n) := by
  induction n generalizing m t with
  | zero => exact h
  | succ n ih =>
    have hrest := ih (h.expiry hlen)
    rwa [Nat.add_assoc, Nat.add_comm 1 n] at hrest

/-- Settles O38: the sweep stands at its start after no expiry, and each expiry carries it one further. -/
theorem sweepIssuesLeadingPositiveSteps : Obligations.SweepIssuesLeadingPositiveSteps := by
  unfold Obligations.SweepIssuesLeadingPositiveSteps
  intro n s hlen htilt hactive hidx hpos hperiod hfits l
  have hstart : State.SweptFor 0 s s :=
    { cfg := rfl, tilt := htilt, direction := rfl
      steps := by simpa using (Config.wrapSteps_of_holds hfits).symm
      active := hactive.trans (decide_eq_true hpos).symm
      index := by simp [hidx]
      period := by simpa using hperiod }
  have hswept := hstart.expiries hlen n
  rw [Nat.zero_add] at hswept
  exact ⟨hswept.steps, hswept.active, hswept.index, hswept.period⟩

end Sys2Proof.Machine
end
